-- ==== Sys2Proof/Word.lean ====
section
/-! DEFINITION. The plain word types of the Kepnor 204: what the manual counts, stamps and numbers. -/

namespace Sys2Proof

/-- One byte of a sample frame, a line frame or the calibration record. -/
abbrev Byte := BitVec 8

/-- Station time: a 32-bit count of milliseconds since the last start (00, R1). -/
abbrev Time := BitVec 32

/-- A sample index: a sample frame's sequence number extended to 32 bits (01, R4). -/
abbrev Index := BitVec 32

/-- A vehicle tag, 0 to 4 095 (03, R50). -/
abbrev Tag := BitVec 12

/-- A station number as strapped, or the source, target or origin of a frame (00, R1). -/
abbrev StationNo := BitVec 4

/-- One strip sample as the head sends it: 16 bits, signed (12, R171). -/
abbrev Sample := BitVec 16

/-- A counter of STATUS pages 1 to 4 (08, R120; 11, R167). -/
abbrev Counter := BitVec 16

end Sys2Proof
end

