-- ==== Sys2Proof/Syntax.lean ====
section
/-! DEFINITION. The commands: one constructor per row of spec/opcode_table.json, and their operand types.

The table gives its rows no fields and no bits. A command's operands are what the spec says the step
takes from outside the block; `dt` is the time in milliseconds since the command before it (log 1). -/

namespace Sys2Proof

/-- The role strap (10, R153). -/
inductive Role | entry | exit
  deriving DecidableEq, Repr

/-- The line-rate strap (10, R153): a bit time of 100 µs or of 200 µs. -/
inductive LineRate | standard | longLine
  deriving DecidableEq, Repr

/-- The strap pins, sampled once at each start (10, R153). -/
structure Straps where
  number : StationNo
  role : Role
  rate : LineRate
  deriving DecidableEq, Repr

/-- The two lamps of the lane's sign (09). -/
inductive Lamp | divert | closed
  deriving DecidableEq, Repr

/-- The self-test's outcome (10, R154): true where the test failed. STRAP, CAL_PORT and HEAD are not
set by the self-test. -/
structure SelfTestFailures where
  memTable : Bool
  memHistory : Bool
  memQueue : Bool
  lineLoop : Bool
  deriving DecidableEq, Repr

/-- What the receiver met (08, R123). Lengths are in microseconds. -/
inductive FramingCause
  /-- a dominant level of this length -/
  | dominant (us : Nat)
  /-- a recessive portion inside a byte -/
  | recessiveInByte (us : Nat)
  /-- a recessive interval after a whole byte, ended by a dominant edge -/
  | recessiveAfterByte (us : Nat)
  /-- a recessive portion after SOS -/
  | recessiveAfterSos (us : Nat)
  /-- a data cell that would begin a fourteenth byte -/
  | fourteenthByte
  deriving DecidableEq, Repr

/-- The commands of the block, in the order of spec/opcode_table.json. -/
inductive Instr
  /-- POWER_ON (R163): the strap pins as the start samples them. -/
  | powerOn (pins : Straps)
  /-- SELF_TEST (R154): which tests failed. -/
  | selfTest (dt : Time) (failures : SelfTestFailures)
  /-- SAMPLE_FRAME (R3): the 14 bytes of a complete sample frame. -/
  | sampleFrame (dt : Time) (bytes : List Byte)
  /-- SAMPLE_BYTE_TIMEOUT (R2): the bytes of the partial frame. -/
  | sampleByteTimeout (dt : Time) (part : List Byte)
  /-- HEAD_LOST_TIMER (R10). -/
  | headLostTimer (dt : Time)
  /-- SAMPLE_CONSUME (R8). -/
  | sampleConsume (dt : Time)
  /-- PULSE_RECORD_TAKE (R22). -/
  | pulseRecordTake (dt : Time)
  /-- WEIGHING (R53). -/
  | weighing (dt : Time)
  /-- ACCEPT_RECORD (R71). -/
  | acceptRecord (dt : Time)
  /-- BACKOFF_EXPIRY (R85): the tag of the claim whose timer expires. -/
  | backoffExpiry (dt : Time) (tag : Tag)
  /-- DEADLINE_EXPIRY (R86): the tag of the claim whose deadline expires. -/
  | deadlineExpiry (dt : Time) (tag : Tag)
  /-- ENTRY_EXPIRY (R102): the key of the entry whose timer runs out. -/
  | entryExpiry (dt : Time) (origin : StationNo) (tag : Tag)
  /-- LEARNING_TIMER_EXPIRY (R106). -/
  | learningTimerExpiry (dt : Time)
  /-- LINE_IDLE (R123): 4 t_b of recessive. -/
  | lineIdle (dt : Time)
  /-- RECEIVE_FRAMING_ERROR (R123, R132): what was met, and the whole bytes read before it, of the frame
  or of the response. -/
  | receiveFramingError (dt : Time) (cause : FramingCause) (bytes : List Byte)
  /-- FRAME_START (R127): true where the station joins another station's SOS. -/
  | frameStart (dt : Time) (join : Bool)
  /-- NO_ECHO_FAULT (R128). -/
  | noEchoFault (dt : Time)
  /-- ARBITRATION_LOSS (R129): the cell of byte 0 (or of the objection byte, R133), 0 the first. -/
  | arbitrationLoss (dt : Time) (cell : Nat)
  /-- BIT_ERROR (R130): the cell counted from the first of byte 0 (or of the response's first byte). -/
  | bitError (dt : Time) (cell : Nat)
  /-- END_OF_DATA (R125): the whole bytes the receiver has read since SOS. -/
  | endOfData (dt : Time) (bytes : List Byte)
  /-- END_OF_FRAME (R126): the lengths in microseconds of the dominant levels read in the response
  after its first level; none where no response was seen. -/
  | endOfFrame (dt : Time) (levels : List Nat)
  /-- HOLD_TAKEN (R137). -/
  | holdTaken (dt : Time)
  /-- LINE_RECESSIVE_NOTICE (R137). -/
  | lineRecessiveNotice (dt : Time)
  /-- ISOLATION_TIMER_EXPIRY (R139). -/
  | isolationTimerExpiry (dt : Time)
  /-- CLOSE_IN_EDGE (R143): the new raw level, true for asserted. -/
  | closeInEdge (dt : Time) (level : Bool)
  /-- CLOSE_IN_DEBOUNCED (R143). -/
  | closeInDebounced (dt : Time)
  /-- REOPEN_TIMER_EXPIRY (R145). -/
  | reopenTimerExpiry (dt : Time)
  /-- LONG_HOLD_TIMER (R147). -/
  | longHoldTimer (dt : Time)
  /-- HOLD_UNTIL_REACHED (R149). -/
  | holdUntilReached (dt : Time)
  /-- LAMP_FEEDBACK_CHANGE (R150): the lamp and whether it now reports current. -/
  | lampFeedbackChange (dt : Time) (lamp : Lamp) (current : Bool)
  /-- LAMP_DISAGREEMENT_EXPIRY (R150). -/
  | lampDisagreementExpiry (dt : Time) (lamp : Lamp)
  /-- HEAD_WAIT_LIMIT (R156). -/
  | headWaitLimit (dt : Time)
  /-- CALIBRATION_LOAD_BEGIN (R157). -/
  | calibrationLoadBegin (dt : Time)
  /-- CALIBRATION_RETRY (R160). -/
  | calibrationRetry (dt : Time)
  /-- CALIBRATION_LOAD_END (R159): the 158 bytes read from the memory. -/
  | calibrationLoadEnd (dt : Time) (record : List Byte)
  /-- CAL_MEMORY_TIMEOUT (R157). -/
  | calMemoryTimeout (dt : Time)
  /-- STATUS_PAGE (R165). -/
  | statusPage (dt : Time)
  /-- SENSE (R165). -/
  | sense (dt : Time)
  /-- RELOAD (R165). -/
  | reload (dt : Time)
  /-- RESTART (R163): the strap pins as the start samples them. -/
  | restart (pins : Straps)
  /-- READ_VEHICLE (R170). -/
  | readVehicle (dt : Time)
  /-- CLEAR_COUNTERS (R165). -/
  | clearCounters (dt : Time)
  /-- SOS_RECEIVED (R123): the length of the dominant level in microseconds. -/
  | sosReceived (dt : Time) (us : Nat)
  /-- RESPONSE_SEEN (R132): the length in microseconds of the first dominant level in the window. -/
  | responseSeen (dt : Time) (us : Nat)
  deriving DecidableEq, Repr

end Sys2Proof
end

