-- ==== Sys2Proof/Decode.lean ====
section
/-! DEFINITION. decodeTableWord. No row of spec/opcode_table.json gives bits ("fields": [] in every row), so no word
spells a command; the commands of the block come in its queue (log 32). -/

namespace Sys2Proof

/-- The command that a word of the opcode table spells: none, since no row has bits. -/
def decodeTableWord (_nbits _w : Nat) : Option Instr := none

end Sys2Proof
end

