-- ==== Sys2Proof/Config.lean ====
section
/-! DEFINITION. The free values: what the manual leaves open. None has a body, so no proof can see what it is. -/

namespace Sys2Proof.Config

/-- Which band a dominant level is read in when its length (in microseconds) is exactly the bound
that two bands of 08 R122 share: the longer band where this is true. DESIGN CHOICE (log 6), safe:
the table gives both bands the bound and names no winner, so nothing is assumed. -/
opaque sharedBound : Nat → Bool

/-- The four reference bits of a SENSE frame whose reference-valid bit is clear, by the station time
of raising (12 R171 gives them no value). DESIGN CHOICE (log 21), safe. -/
opaque absentReference : BitVec 32 → BitVec 4

/-- Bytes 8 and 9 of a VERDICT whose deadline difference (in units of 100 ms) lies outside the
values that 16 signed bits can carry beside the no-deadline value (12 R171).
DESIGN CHOICE (log 22), safe. -/
opaque deadlineField : Int → BitVec 16

end Sys2Proof.Config
end

