-- ==== Sys2Proof/Machine/State.lean ====
section
/-! DEFINITION. State: every piece of state the spec gives the block, grouped by the block that owns it, and State.reset. -/

namespace Sys2Proof.Machine

/-! ## Sample Port (01) -/

/-- The head condition (01, R9). -/
inductive HeadCond | absent | ready
  deriving DecidableEq, Repr

/-- What a frame reads: the four samples, the presence bit and the temperature. It is also what the
hold values hold (01, R5). -/
structure Reading where
  al : Sample
  ar : Sample
  bl : Sample
  br : Sample
  presence : Bool
  temperature : Byte
  deriving DecidableEq, Repr

/-- A good sample frame. Sync, the head-fault bit, the reserved bits and the CRC of a good frame
follow from these fields, so two good frames are identical in all 14 bytes exactly when these are
equal (01, R2, R3). -/
structure SampleFrame where
  sequence : BitVec 16
  reading : Reading
  deriving DecidableEq, Repr

/-- The mark of a FIFO entry (01, R6, R7, R9). -/
inductive EntryMark | plain | resync | seed
  deriving DecidableEq, Repr

/-- An entry of the sample FIFO (01, R7): `gaps` missing samples, held at `hold`, come before it. -/
structure FifoEntry where
  index : Index
  reading : Reading
  gaps : Nat
  hold : Reading
  mark : EntryMark
  deriving DecidableEq, Repr

/-- The Sample Port (01, R3 to R10). -/
structure SamplePort where
  head : HeadCond
  lastGood : Option SampleFrame
  hold : Option Reading
  lastIndex : Option Index
  fifo : List FifoEntry
  overrun : Bool
  runLength : Nat
  runLast : Option SampleFrame
  /-- the end of the head-lost timer while it runs (R10) -/
  headTimer : Option Time
  deriving DecidableEq, Repr

/-! ## Pulse Detector (01) -/

/-- The four strip channels. -/
inductive Channel | al | ar | bl | br
  deriving DecidableEq, Repr

/-- The two strip rows; row A is the upstream row. -/
inductive Row | a | b
  deriving DecidableEq, Repr

/-- A pulse in progress (01, R13). -/
structure PulseInProgress where
  onset : Index
  stamp : Time
  temperature : Byte
  area : Nat
  peak : Nat
  length : Nat
  gap : Bool
  deriving DecidableEq, Repr

/-- The state of a channel (01, R11). -/
inductive ChannelMode
  | unseeded
  | tracking
  | pulse (p : PulseInProgress)
  | stuck
  deriving DecidableEq, Repr

/-- A channel with its baseline sum Bs (01, R11). -/
structure ChannelState where
  sum : Int
  mode : ChannelMode
  deriving DecidableEq, Repr

/-- A pulse record (01, R14). -/
structure PulseRecord where
  channel : Channel
  onset : Index
  stamp : Time
  temperature : Byte
  area : Nat
  peak : Nat
  gap : Bool
  deriving DecidableEq, Repr

/-- A record of the pulse queue with the note the queue keeps beside it (02, R22). -/
structure QueuedPulse where
  record : PulseRecord
  note : Option Index
  deriving DecidableEq, Repr

/-- The Pulse Detector (01, R11 to R18). -/
structure PulseDetector where
  al : ChannelState
  ar : ChannelState
  bl : ChannelState
  br : ChannelState
  queue : List QueuedPulse
  dropA : Bool
  dropB : Bool
  settled : Option Index
  deriving DecidableEq, Repr

/-! ## Axle Former (02) -/

/-- A row-axle (02, R21). -/
structure RowAxle where
  row : Row
  first : Index
  stamp : Time
  temperature : Byte
  left : Option Nat
  right : Option Nat
  gap : Bool
  deriving DecidableEq, Repr

/-- An axle record (02, R32). Load and spacing are empty until the vehicle is weighed. -/
structure Axle where
  reference : Index
  stamp : Time
  temperature : Byte
  rowBStamp : Option Time
  speed : Option Nat
  al : Option Nat
  ar : Option Nat
  bl : Option Nat
  br : Option Nat
  singleRow : Bool
  oneSided : Bool
  gap : Bool
  load : Option Nat
  spacing : Option Nat
  deriving DecidableEq, Repr

/-- The Axle Former (02, R21). Its horizon and its hold are functions of other state (R22, R35). -/
structure AxleFormer where
  openA : Option RowAxle
  openB : Option RowAxle
  waitingB : List RowAxle
  pendingA : List RowAxle
  lastDn : Option Nat
  deriving DecidableEq, Repr

/-! ## Vehicle records (03, 04, 05, 07) -/

/-- The verdicts (04, R66). -/
inductive Verdict | light | heavy | overlimit | unweighed
  deriving DecidableEq, Repr

/-- The outcomes (05, R72 to R90; 07, R116). -/
inductive VehicleOutcome
  | proceed | admitted
  | divertLimit | divertRefused | divertLate | divertQueue | divertClosed
  | divertUncoordinated | divertUnweighed
  | exitMatched | exitUnmatched | exitLight
  deriving DecidableEq, Repr

/-- The reasons of an objection (06, R99). -/
inductive Reason | cannotVouch | tableFull | count | budget
  deriving DecidableEq, Repr

/-- An objection: its reason and the objector's number (05, R82). -/
structure Objection where
  reason : Reason
  objector : StationNo
  deriving DecidableEq, Repr

/-- The eight flags of a vehicle record (03, R49; 04, R53). -/
structure VehicleFlags where
  gap : Bool
  oneSided : Bool
  singleRow : Bool
  split : Bool
  stalled : Bool
  axleOverflow : Bool
  saturated : Bool
  tempOut : Bool
  deriving DecidableEq, Repr

/-- A vehicle record (03, R49; 04, R68; 05, R77). -/
structure VehicleRecord where
  origin : StationNo
  tag : Tag
  firstStamp : Time
  firstRowB : Option Time
  speed : Option Nat
  band : Option Nat
  axleCount : Nat
  axles : List Axle
  flags : VehicleFlags
  measuredGross : Nat
  assessedGross : Nat
  verdict : Option Verdict
  lightMark : Bool
  outcome : Option VehicleOutcome
  deadline : Option Time
  lastObjection : Option Objection
  closeTime : Time
  deriving DecidableEq, Repr

/-! ## Vehicle Assembler (03) -/

/-- The sample last handed over (03, R38). -/
structure CurrentSample where
  index : Index
  stamp : Time
  deriving DecidableEq, Repr

/-- The open vehicle (03, R38). `lastJoin` is the current sample's index when the most recent axle
joined, for the quiet start of R43. -/
structure OpenVehicle where
  axles : List Axle
  opening : Index
  presenceSeen : Bool
  stallMark : Bool
  carriedGap : Bool
  carriedSplit : Bool
  lastJoin : Option Index
  deriving DecidableEq, Repr

/-- The Vehicle Assembler (03, R38). `afterBreak` says that a discontinuity has come since the
current sample, for the GAP of R40. -/
structure Assembler where
  current : Option CurrentSample
  presence : Bool
  runStart : Option Index
  afterBreak : Bool
  vehicle : Option OpenVehicle
  tagCounter : Tag
  outbound : List VehicleRecord
  closedQueue : List VehicleRecord
  history : List VehicleRecord
  deriving DecidableEq, Repr

/-! ## Admission Unit (05) -/

/-- The state of a claim (05, R69): an OFFERED claim's frame is queued or in flight. -/
inductive ClaimState
  | waiting
  | offeredQueued
  | offeredInFlight
  | backoff (until_ : Time)
  deriving DecidableEq, Repr

/-- A claim (05, R69). -/
structure Claim where
  vehicle : VehicleRecord
  deadline : Time
  dwell : Nat
  state : ClaimState
  objectionSeen : Bool
  lastObjection : Option Objection
  lateMark : Option VehicleOutcome
  deriving DecidableEq, Repr

/-- The Admission Unit (05, R69, R71): the weighed record that waits for acceptance, and the claim
queue in order of deadline. -/
structure Admission where
  waiting : Option VehicleRecord
  claims : List Claim
  deriving DecidableEq, Repr

/-! ## Span Table (06) -/

/-- The ends of the span (00, R1). -/
inductive SpanEnd | west | east
  deriving DecidableEq, Repr

/-- A span entry (06, R91). -/
structure SpanEntry where
  origin : StationNo
  tag : Tag
  entryEnd : SpanEnd
  axleCount : Nat
  measuredGross : Nat
  assessedGross : Nat
  dwell : Nat
  admission : Time
  expiry : Time
  departing : Bool
  deriving DecidableEq, Repr

/-- The Span Table (06, R91, R93, R100): entries oldest first. -/
structure SpanTable where
  entries : List SpanEntry
  sum : Nat
  count : Nat
  duplicates : BitVec 8
  lost : BitVec 8
  deriving DecidableEq, Repr

/-! ## Line Controller (08) -/

/-- The line state (08, R120). -/
inductive LineState | normal | isolated | listenOnly
  deriving DecidableEq, Repr

/-- The receiver's phases (08, R123). -/
inductive RxPhase | seeking | idle | frame | discard | window | response | hold
  deriving DecidableEq, Repr

/-- The three classes of reception error (08, R125). -/
inductive RxError | framing | format | crc
  deriving DecidableEq, Repr

/-- The first dominant level read in a window (08, R122, R132). -/
inductive Opening | short | long | misshapen
  deriving DecidableEq, Repr

/-- The receive assembly (08, R120, R125, R132). Byte 0 was read whole when `bytes` is not empty. -/
structure RxAssembly where
  bytes : List Byte
  firstError : Option RxError
  own : Bool
  good : Bool
  opening : Option Opening
  deriving DecidableEq, Repr

/-- The frame kinds of R124 in code order. -/
inductive FrameKind | depart | claim | command | sense | status | report | verdict
  deriving DecidableEq, Repr

/-- What a frame of this station is besides its bytes: a frame of a READ_VEHICLE replay (11, R170),
the STATUS of entry to FAILED (10, R155), the isolation frame (08, R139), or an ordinary one. -/
inductive FrameUse | ordinary | replay | failedStatus | isolation
  deriving DecidableEq, Repr

/-- A frame as built for the transmit queue (08, R124). `arrival` orders frames by arrival. -/
structure TxFrame where
  kind : FrameKind
  bytes : List Byte
  use : FrameUse
  arrival : Nat
  deriving DecidableEq, Repr

/-- The phases of the frame in flight (08, R120). No row reports the end of byte 0, so the phase is
`byte0` until a command reports something of a later byte (log 5). -/
inductive TxPhase | start | byte0 | data | window
  deriving DecidableEq, Repr

/-- The frame in flight (08, R120): `joined` where the station joined another's SOS (R127), `stopped`
where the HOLD demand has taken its place on the line (R138). -/
structure InFlight where
  frame : TxFrame
  phase : TxPhase
  joined : Bool
  stopped : Bool
  deriving DecidableEq, Repr

/-- The response in progress (08, R120, R132 to R134): the bytes after the normalization symbol,
whether it is a command reply, and whether driving has stopped. -/
structure ResponseDrive where
  bytes : List Byte
  isReply : Bool
  stopped : Bool
  deriving DecidableEq, Repr

/-- The Line Controller (08, R120). -/
structure LineControl where
  state : LineState
  noEchoRun : Nat
  phase : RxPhase
  rx : RxAssembly
  txq : List TxFrame
  inFlight : Option InFlight
  response : Option ResponseDrive
  holdDemand : Bool
  /-- the end of the isolation timer while it runs (R139) -/
  isolationTimer : Option Time
  isolationFrame : Option TxFrame
  /-- set from a no-echo fault until 4 t_b of recessive have passed (R128) -/
  echoWait : Bool
  deriving DecidableEq, Repr

/-! ## Closure and Sign Controller (09) -/

/-- The closure state (09, R145). -/
inductive Closure | opened | held | reopening
  deriving DecidableEq, Repr

/-- The two kinds of lamp disagreement (09, R150). -/
inductive Disagreement | dark | lit
  deriving DecidableEq, Repr

/-- A running disagreement timer: its kind and the station time it started (09, R150). -/
structure LampTimer where
  kind : Disagreement
  start : Time
  deriving DecidableEq, Repr

/-- One lamp: its command, its feedback input, its fault mark and its timer (09, R142, R148, R150). -/
structure LampState where
  command : Bool
  current : Bool
  mark : Bool
  timer : Option LampTimer
  deriving DecidableEq, Repr

/-- The Closure and Sign Controller (09, R142). -/
structure SignControl where
  rawCloseIn : Bool
  rawSince : Time
  closeIn : Bool
  closure : Closure
  /-- the end of the reopen timer while it runs -/
  reopenTimer : Option Time
  /-- the start of the long-hold timer while it runs -/
  longHoldTimer : Option Time
  longHold : Bool
  holdUntil : Option Time
  divert : LampState
  closed : LampState
  deriving DecidableEq, Repr

/-! ## Station Control (10) and the calibration (12) -/

/-- The operating mode (10, R152). -/
inductive Mode | starting | learning | active | failed
  deriving DecidableEq, Repr

/-- The start step (10, R152). -/
inductive StartStep | straps | selfTest | headWait | calibration | done
  deriving DecidableEq, Repr

/-- The self-test mask (10, R152). -/
structure SelfTestMask where
  memTable : Bool
  memHistory : Bool
  memQueue : Bool
  lineLoop : Bool
  calPort : Bool
  strap : Bool
  head : Bool
  deriving DecidableEq, Repr

/-- The site section of the calibration record (12, R172). -/
structure SiteSection where
  axleLimit : Nat
  grossLimit : Nat
  claimThreshold : Nat
  normalTolerance : Nat
  degradedTolerance : Nat
  spanBudget : Nat
  lightAllowance : Nat
  maxHeavies : Nat
  dwellMargin : Nat
  dwellRefSpeed : Nat
  dwellCap : Nat
  reopenTime : Nat
  signHold : Nat
  matchTolerance : Nat
  minTransit : Nat
  deriving DecidableEq, Repr

/-- The lane section of the calibration record (12, R172). -/
structure LaneSection where
  spanEnd : SpanEnd
  signFitted : Bool
  tOn : Nat
  tOff : Nat
  rowSpacing : Nat
  window : Nat
  vMin : Nat
  vMax : Nat
  maxAxleSpacing : Nat
  stuckLimit : Nat
  defaultSpeed : Nat
  lightWheelbase : Nat
  scaleAL : Nat
  scaleAR : Nat
  scaleBL : Nat
  scaleBR : Nat
  nodes : List Nat
  factors : List (List Nat)
  tempBounds : List Int
  decisionDistance : Nat
  farDistance : Nat
  deriving DecidableEq, Repr

/-- The working calibration of a LOADED station with its site checksum (10, R159, R162). -/
structure Calibration where
  site : SiteSection
  lane : LaneSection
  checksum : BitVec 16
  deriving DecidableEq, Repr

/-- The kinds of calibration load (10, R157). -/
inductive LoadKind | start | retry | reload
  deriving DecidableEq, Repr

/-- A load in flight: its kind and the station time it began (10, R157). -/
structure Load where
  kind : LoadKind
  since : Time
  deriving DecidableEq, Repr

/-- The codes of a sense record (11, R166). -/
inductive SenseCode
  | selfTest | calInvalid | calPort | headAbsent | headLost | lineFault | identity | signFault
  | siteMismatch
  deriving DecidableEq, Repr

/-- A sense record (11, R166). -/
structure SenseRecord where
  code : SenseCode
  detail : Byte
  reference : Option StationNo
  raised : Time
  deriving DecidableEq, Repr

/-- The running learning timer: when learning started and when it ends (06, R106). -/
structure Learning where
  start : Time
  finish : Time
  deriving DecidableEq, Repr

/-- Station Control (10, R152; 11, R166). -/
structure StationControl where
  mode : Mode
  calibration : Option Calibration
  straps : Straps
  mask : SelfTestMask
  startStep : StartStep
  restarted : Bool
  load : Option Load
  reloadAsked : Bool
  lastLoadEnd : Option Time
  lastLoadResult : Option (SenseCode × Byte)
  learning : Option Learning
  mismatch : List StationNo
  sense : Option SenseRecord
  lostSense : BitVec 8
  fault : Bool
  deriving DecidableEq, Repr

/-- The counters of STATUS pages 1 to 4 (11, R167). -/
structure Counters where
  framesSent : Counter
  arbitrationLosses : Counter
  bitErrors : Counter
  noEchoFaults : Counter
  crcErrors : Counter
  formatErrors : Counter
  framingErrors : Counter
  holdEvents : Counter
  claimsOffered : Counter
  claimsGranted : Counter
  objectionsSent : Counter
  unknownDepartures : Counter
  sampleCrcErrors : Counter
  sampleGaps : Counter
  vehiclesClosed : Counter
  txDrops : Counter
  deriving DecidableEq, Repr

/-! ## Command Handler (11) -/

/-- A maintenance command whose reply was ACK, with what it needs to run (11, R164). -/
inductive Maintenance
  | statusPage (page : Nat)
  | sense
  | reload
  | restart
  | readVehicle (copy : VehicleRecord)
  | clearCounters
  deriving DecidableEq, Repr

/-- The reply in preparation, from the COMMAND's EOD to its EOF (11, R164). `command` is the command
to run if the reply completes: none for BUSY, CHECK and REJECT. `silent` marks a RESTART to be
performed at the EOF without a reply. -/
structure Prepared where
  command : Option Maintenance
  silent : Bool
  deriving DecidableEq, Repr

/-- A frame of a replay that is still to be queued (11, R170). -/
structure ReplayFrame where
  kind : FrameKind
  payload : List Byte
  deriving DecidableEq, Repr

/-- The Command Handler (11): reply in preparation, the command whose execution is due, and the
frames of the replay in progress that have not been queued yet. -/
structure CommandHandler where
  prepared : Option Prepared
  due : Option Maintenance
  replay : Option (List ReplayFrame)
  deriving DecidableEq, Repr

/-! ## The station -/

/-- The whole state of the block: one part per owner, station time, and the queue of the commands
that are waiting, first in, first out. -/
structure State where
  now : Time
  control : StationControl
  counters : Counters
  port : SamplePort
  detector : PulseDetector
  former : AxleFormer
  assembler : Assembler
  admission : Admission
  span : SpanTable
  line : LineControl
  sign : SignControl
  handler : CommandHandler
  pending : List Instr
  deriving DecidableEq, Repr

/-- Why a step stops. No meaning of this block stops: every rule gives its event an effect, and a
command whose conditions do not hold changes nothing (log 3). The type has no constructor; safe. -/
inductive Fault
  deriving DecidableEq, Repr

/-- Why the model has no meaning for a command. -/
inductive Refusal
  /-- Raised by Dispatch.lean for a command not modelled yet; none is left. Safe. -/
  | notModelled (mnemonic : String)
  deriving DecidableEq, Repr

/-! ## Reset -/

def SamplePort.reset : SamplePort :=
  { head := .absent, lastGood := none, hold := none, lastIndex := none, fifo := [], overrun := false,
    runLength := 0, runLast := none, headTimer := none }

def ChannelState.reset : ChannelState := { sum := 0, mode := .unseeded }

def PulseDetector.reset : PulseDetector :=
  { al := .reset, ar := .reset, bl := .reset, br := .reset, queue := [], dropA := false,
    dropB := false, settled := none }

def AxleFormer.reset : AxleFormer :=
  { openA := none, openB := none, waitingB := [], pendingA := [], lastDn := none }

def Assembler.reset : Assembler :=
  { current := none, presence := false, runStart := none, afterBreak := false, vehicle := none,
    tagCounter := 0, outbound := [], closedQueue := [], history := [] }

def Admission.reset : Admission := { waiting := none, claims := [] }

def SpanTable.reset : SpanTable :=
  { entries := [], sum := 0, count := 0, duplicates := 0, lost := 0 }

def RxAssembly.empty : RxAssembly :=
  { bytes := [], firstError := none, own := false, good := false, opening := none }

def LineControl.reset : LineControl :=
  { state := .normal, noEchoRun := 0, phase := .seeking, rx := .empty, txq := [], inFlight := none,
    response := none, holdDemand := false, isolationTimer := none, isolationFrame := none,
    echoWait := false }

/-- Power-on values of 09 R142. DIVERT is on and CLOSED off, as R148 gives for a station that is
STARTING with closure OPEN. The inputs are DESIGN CHOICE (log 4), unsafe. -/
def SignControl.reset : SignControl :=
  { rawCloseIn := false, rawSince := 0, closeIn := false, closure := .opened, reopenTimer := none,
    longHoldTimer := none, longHold := false, holdUntil := none,
    divert := { command := true, current := false, mark := false, timer := none },
    closed := { command := false, current := false, mark := false, timer := none } }

def SelfTestMask.clear : SelfTestMask :=
  { memTable := false, memHistory := false, memQueue := false, lineLoop := false, calPort := false,
    strap := false, head := false }

/-- The straps before the first POWER_ON samples them: DESIGN CHOICE (log 4), unsafe. -/
def Straps.unsampled : Straps := { number := 0, role := .entry, rate := .standard }

def StationControl.reset : StationControl :=
  { mode := .starting, calibration := none, straps := Straps.unsampled, mask := .clear,
    startStep := .straps, restarted := false, load := none, reloadAsked := false,
    lastLoadEnd := none, lastLoadResult := none, learning := none, mismatch := [], sense := none,
    lostSense := 0, fault := false }

def Counters.zero : Counters :=
  { framesSent := 0, arbitrationLosses := 0, bitErrors := 0, noEchoFaults := 0, crcErrors := 0,
    formatErrors := 0, framingErrors := 0, holdEvents := 0, claimsOffered := 0, claimsGranted := 0,
    objectionsSent := 0, unknownDepartures := 0, sampleCrcErrors := 0, sampleGaps := 0,
    vehiclesClosed := 0, txDrops := 0 }

def CommandHandler.reset : CommandHandler := { prepared := none, due := none, replay := none }

/-- The block right after power is applied and before POWER_ON samples the straps (10, R163). -/
def State.reset : State :=
  { now := 0, control := .reset, counters := .zero, port := .reset, detector := .reset,
    former := .reset, assembler := .reset, admission := .reset, span := .reset, line := .reset,
    sign := .reset, handler := .reset, pending := [] }

end Sys2Proof.Machine
end

