-- ==== Sys2Proof/Machine/Bits.lean ====
section
/-! DEFINITION. Arithmetic the rules share: rounding, clamping, saturation, modular time, byte order and the two CRCs. -/

namespace Sys2Proof.Machine

/-! ## Rounding, clamping and saturation (00, R1) -/

/-- floor(n / d + 1/2): round half up of a ratio of natural numbers. -/
def roundHalfUp (n d : Nat) : Nat := (2 * n + d) / (2 * d)

/-- Round half up of a signed ratio: floor((2n + d) / 2d), the floor towards minus infinity. -/
def roundHalfUpInt (n : Int) (d : Nat) : Int := (2 * n + d) / (2 * (d : Int))

/-- ceil(n / d). -/
def ceilDiv (n d : Nat) : Nat := (n + d - 1) / d

/-- A load clamped to 65 535, and whether the clamp was needed (04, 4.12). -/
def clampLoad (n : Nat) : Nat × Bool := (min n 65535, decide (65535 < n))

/-- Round half up of the mean of k numbers that sum to `sum`: floor((2 S + k) / 2 k) (04, R56). -/
def meanHalfUp (l : List Nat) : Option Nat :=
  if l.isEmpty then none else some (roundHalfUp l.sum l.length)

/-- Increment of a saturating counter of any width (00, R1). -/
def bump {n : Nat} (c : BitVec n) : BitVec n := if c = BitVec.allOnes n then c else c + 1

/-! ## Modular time and index (00, R1; 01, R4) -/

/-- The modular difference a − b of two station times or two sample indices. -/
def modDiff (a b : BitVec 32) : Int := (a - b).toInt

/-- Whether `now` is at or after `t`, that is, `t` is at or before `now` (R1). -/
def reached (now t : BitVec 32) : Bool := decide (0 ≤ modDiff now t)

/-- The later of two station times or indices, by modular difference. -/
def later (a b : BitVec 32) : BitVec 32 := if 0 ≤ modDiff a b then a else b

/-- A number of milliseconds or samples as a 32-bit count. -/
def span32 (n : Nat) : BitVec 32 := BitVec.ofNat 32 n

/-! ## Bytes, high byte first (00, R1; 12, R171) -/

/-- The low eight bits of a number. -/
def byteOf (n : Nat) : Byte := BitVec.ofNat 8 n

/-- A 16-bit field: two bytes, high byte first; higher bits of the number are not carried. -/
def be16 (n : Nat) : List Byte := [byteOf (n / 256), byteOf n]

/-- A 32-bit field: four bytes, high byte first. -/
def be32 (n : Nat) : List Byte := [byteOf (n / 16777216), byteOf (n / 65536), byteOf (n / 256), byteOf n]

/-- The number that a run of bytes stands for, high byte first. -/
def readBE (bytes : List Byte) : Nat := bytes.foldl (fun acc b => acc * 256 + b.toNat) 0

/-- The unsigned field of `width` bytes at byte `pos`. -/
def fieldAt (bytes : List Byte) (pos width : Nat) : Nat := readBE ((bytes.drop pos).take width)

/-- Byte `pos`, 0 where there is none. -/
def byteAt (bytes : List Byte) (pos : Nat) : Byte := bytes.getD pos 0

/-- Bit `cell` of a run of bytes sent most significant bit first (00, R1). -/
def cellOf (bytes : List Byte) (cell : Nat) : Option Bool :=
  (bytes[cell / 8]?).map fun b => b.getMsbD (cell % 8)

/-- A bit as a number, for packing fields. -/
def bit (b : Bool) : Nat := if b then 1 else 0

/-! ## Cyclic redundancy checks -/

/-- One shift of the CRC-8 register with polynomial x^8 + x^2 + x + 1 (01, R2; 08, R124). -/
def crc8Shift (c : BitVec 8) : BitVec 8 := if c.msb then (c <<< 1) ^^^ 0x07 else c <<< 1

def crc8Byte (c : BitVec 8) (b : Byte) : BitVec 8 :=
  let c := c ^^^ b
  let c := crc8Shift (crc8Shift (crc8Shift (crc8Shift c)))
  crc8Shift (crc8Shift (crc8Shift (crc8Shift c)))

/-- CRC-8, initial value 0, no reflection, no final inversion. -/
def crc8 (bytes : List Byte) : BitVec 8 := bytes.foldl crc8Byte 0

/-- One shift of the CRC-16 register with polynomial x^16 + x^12 + x^5 + 1 (10, R158). -/
def crc16Shift (c : BitVec 16) : BitVec 16 := if c.msb then (c <<< 1) ^^^ 0x1021 else c <<< 1

def crc16Byte (c : BitVec 16) (b : Byte) : BitVec 16 :=
  let c := c ^^^ (b.zeroExtend 16 <<< 8)
  let c := crc16Shift (crc16Shift (crc16Shift (crc16Shift c)))
  crc16Shift (crc16Shift (crc16Shift (crc16Shift c)))

/-- CRC-16, initial value all ones, no reflection, no final inversion (10, R158, R162). -/
def crc16 (bytes : List Byte) : BitVec 16 := bytes.foldl crc16Byte 0xFFFF

end Sys2Proof.Machine
end

