-- ==== Sys2Proof/Machine/Params.lean ====
section
/-! DEFINITION. Capacities, fixed times, and the parameters in force: the calibration's while it is LOADED, the built-in
defaults while it is ABSENT (10, R159). -/

namespace Sys2Proof.Machine

/-! ## Capacities (00, section 7) and fixed times -/

def fifoCapacity : Nat := 16
def pulseQueueCapacity : Nat := 32
def pendingCapacity : Nat := 16
def waitingCapacity : Nat := 4
def openListCapacity : Nat := 24
def closedQueueCapacity : Nat := 4
def historyCapacity : Nat := 16
def claimCapacity : Nat := 4
def spanCapacity : Nat := 32
def txCapacity : Nat := 8

/-- The ready run that makes the head READY, in frames (01, R9). -/
def readyRunFrames : Nat := 4096
/-- The head-lost timer, ms (01, R10). -/
def headLostTime : Nat := 100
/-- A pulse that would reach this length is abandoned (01, R15). -/
def stuckLength : Nat := 2048
/-- The quiet interval, samples (03, R43). -/
def quietSamples : Nat := 1024
/-- The back-off after an objection, ms (05, R70). -/
def backoffTime : Nat := 500
/-- Learning without a calibration, ms (06, R106). -/
def learningWithoutCalibration : Nat := 600000
/-- The isolation timer, ms (08, R139). -/
def isolationTime : Nat := 5000
/-- The CLOSE_IN debounce, ms (09, R143). -/
def debounceTime : Nat := 20
/-- The long-hold time, ms (09, R147). -/
def longHoldTime : Nat := 60000
/-- The lamp disagreement time, ms (09, R150). -/
def disagreementTime : Nat := 500
/-- The head-wait limit, ms (10, R156). -/
def headWaitLimit (restarted : Bool) : Nat := if restarted then 5000 else 40000
/-- The calibration memory's longest silence, ms (10, R157). -/
def memorySilence : Nat := 50
/-- The time between retries, ms (10, R160). -/
def retryTime : Nat := 30000

/-! ## Parameters in force -/

def State.site? (s : State) : Option SiteSection := s.control.calibration.map Calibration.site
def State.lane? (s : State) : Option LaneSection := s.control.calibration.map Calibration.lane

/-- A lane parameter with its built-in default (10, R159). -/
def State.laneOr (s : State) (f : LaneSection → Nat) (builtin : Nat) : Nat := (s.lane?.map f).getD builtin

/-- A site parameter with its built-in default (10, R159). -/
def State.siteOr (s : State) (f : SiteSection → Nat) (builtin : Nat) : Nat := (s.site?.map f).getD builtin

/-- Onset threshold (01, R12). -/
def State.tOn (s : State) : Nat := s.laneOr LaneSection.tOn 400
/-- End threshold (01, R12). -/
def State.tOff (s : State) : Nat := s.laneOr LaneSection.tOff 200
/-- Row spacing D, mm (02, R20). -/
def State.rowSpacing (s : State) : Nat := s.laneOr LaneSection.rowSpacing 3000
/-- Coincidence window W_c, samples (02, R20). -/
def State.window (s : State) : Nat := s.laneOr LaneSection.window 48
/-- Lowest pairing speed, mm/s (02, R20). -/
def State.vMin (s : State) : Nat := s.laneOr LaneSection.vMin 1389
/-- Highest pairing speed, mm/s (02, R20). -/
def State.vMax (s : State) : Nat := s.laneOr LaneSection.vMax 41667
/-- Maximum axle spacing, mm (03, R37). -/
def State.maxAxleSpacing (s : State) : Nat := s.laneOr LaneSection.maxAxleSpacing 15000
/-- Stuck limit in samples (03, R37). -/
def State.stuckSamples (s : State) : Nat := s.laneOr LaneSection.stuckLimit 60 * 4096
/-- Lane default speed, mm/s (03, R37). -/
def State.defaultSpeed (s : State) : Nat := s.laneOr LaneSection.defaultSpeed 11111
/-- Light-wheelbase limit, mm (04, R54). -/
def State.lightWheelbase (s : State) : Nat := s.laneOr LaneSection.lightWheelbase 3200
/-- The dwell cap for entries added at grants, ds (06, R92). -/
def State.dwellCap (s : State) : Nat := s.siteOr SiteSection.dwellCap 6000
/-- Reopen time, s (09, R145). -/
def State.reopenTime (s : State) : Nat := s.siteOr SiteSection.reopenTime 2
/-- Sign hold, s (09, R149). -/
def State.signHold (s : State) : Nat := s.siteOr SiteSection.signHold 8

/-- Δn_min = ceil(D × 4 096 / v_max) (02, R20). -/
def deltaMin (rowSpacing vMax : Nat) : Nat := ceilDiv (rowSpacing * 4096) vMax

/-- Δn_max = floor(D × 4 096 / v_min) (02, R20). -/
def deltaMax (rowSpacing vMin : Nat) : Nat := rowSpacing * 4096 / vMin

def State.dnMin (s : State) : Nat := deltaMin s.rowSpacing s.vMax
def State.dnMax (s : State) : Nat := deltaMax s.rowSpacing s.vMin

/-- The bit time in microseconds (08, R120). -/
def bitTime : LineRate → Nat
  | .standard => 100
  | .longLine => 200

end Sys2Proof.Machine
end

