-- ==== Sys2Proof/WellFormed.lean ====
section
/-! DEFINITION. Which commands are well formed: the checks on their operands that the spec's own widths and lengths give. -/

namespace Sys2Proof

/-- The value of a sample frame's first byte (12, R171). -/
def syncByte : Byte := 0xC5

/-- Station times compare while they lie within 2^31 ms of each other (00, R1), so no command may
come later than that after the one before. -/
def Time.sane (dt : Time) : Bool := !dt.msb

/-- A complete sample frame: 14 bytes, the first of them the sync value (01, R2). -/
def sampleFrameSane (bytes : List Byte) : Bool :=
  bytes.length == 14 && bytes.head? == some syncByte

/-- A partial sample frame: at least its sync byte, fewer than 14 bytes (01, R2). -/
def partialFrameSane (part : List Byte) : Bool :=
  part.head? == some syncByte && decide (part.length < 14)

/-- The bytes read before a framing error fit what was met: none after SOS, some after a whole byte,
all 13 before a fourteenth (08, R123). -/
def framingCauseSane (cause : FramingCause) (bytes : List Byte) : Bool :=
  decide (bytes.length ≤ 13) &&
    match cause with
    | .recessiveAfterByte _ => !bytes.isEmpty
    | .recessiveAfterSos _ => bytes.isEmpty
    | .fourteenthByte => bytes.length == 13
    | .dominant _ => true
    | .recessiveInByte _ => true

/-- A well-formed command. -/
def Instr.wellFormed : Instr → Bool
  | .powerOn _ => true
  | .selfTest dt _ => dt.sane
  | .sampleFrame dt bytes => dt.sane && sampleFrameSane bytes
  | .sampleByteTimeout dt part => dt.sane && partialFrameSane part
  | .headLostTimer dt => dt.sane
  | .sampleConsume dt => dt.sane
  | .pulseRecordTake dt => dt.sane
  | .weighing dt => dt.sane
  | .acceptRecord dt => dt.sane
  | .backoffExpiry dt _ => dt.sane
  | .deadlineExpiry dt _ => dt.sane
  | .entryExpiry dt origin _ => dt.sane && decide (origin ≠ 15)
  | .learningTimerExpiry dt => dt.sane
  | .lineIdle dt => dt.sane
  | .receiveFramingError dt cause bytes => dt.sane && framingCauseSane cause bytes
  | .frameStart dt _ => dt.sane
  | .noEchoFault dt => dt.sane
  | .arbitrationLoss dt cell => dt.sane && decide (cell < 8)
  | .bitError dt cell => dt.sane && decide (cell < 104)
  | .endOfData dt bytes => dt.sane && decide (bytes.length ≤ 13)
  | .endOfFrame dt _ => dt.sane
  | .holdTaken dt => dt.sane
  | .lineRecessiveNotice dt => dt.sane
  | .isolationTimerExpiry dt => dt.sane
  | .closeInEdge dt _ => dt.sane
  | .closeInDebounced dt => dt.sane
  | .reopenTimerExpiry dt => dt.sane
  | .longHoldTimer dt => dt.sane
  | .holdUntilReached dt => dt.sane
  | .lampFeedbackChange dt _ _ => dt.sane
  | .lampDisagreementExpiry dt _ => dt.sane
  | .headWaitLimit dt => dt.sane
  | .calibrationLoadBegin dt => dt.sane
  | .calibrationRetry dt => dt.sane
  | .calibrationLoadEnd dt record => dt.sane && record.length == 158
  | .calMemoryTimeout dt => dt.sane
  | .statusPage dt => dt.sane
  | .sense dt => dt.sane
  | .reload dt => dt.sane
  | .restart _ => true
  | .readVehicle dt => dt.sane
  | .clearCounters dt => dt.sane
  | .sosReceived dt us => dt.sane && decide (0 < us)
  | .responseSeen dt us => dt.sane && decide (0 < us)

end Sys2Proof
end

