-- ==== Sys2Proof/Machine/Operands.lean ====
section
/-! DEFINITION. Reading the operands: sample frames, levels of the line, line frames, responses, the calibration record
(01 R2; 08 R122 to R125, R133; 10 R158; 12). -/

namespace Sys2Proof.Machine

/-! ## Sample frame (01 R2, 12 R171) -/

/-- The three checks of R2 on a complete frame. -/
def sampleFrameGood (bytes : List Byte) : Bool :=
  crc8 (bytes.take 13) == byteAt bytes 13
    && (byteAt bytes 11 &&& 0x3F) == 0
    && !(byteAt bytes 11).getLsbD 6

/-- The fields of a complete sample frame. -/
def sampleFrameOf (bytes : List Byte) : SampleFrame :=
  { sequence := BitVec.ofNat 16 (fieldAt bytes 1 2)
    reading :=
      { al := BitVec.ofNat 16 (fieldAt bytes 3 2)
        ar := BitVec.ofNat 16 (fieldAt bytes 5 2)
        bl := BitVec.ofNat 16 (fieldAt bytes 7 2)
        br := BitVec.ofNat 16 (fieldAt bytes 9 2)
        presence := (byteAt bytes 11).getLsbD 7
        temperature := byteAt bytes 12 } }

/-! ## Symbols of the line (08 R121) -/

/-- The symbols a station drives (R121). -/
inductive Symbol | data0 | data1 | sos | normShort | normLong | hold
  deriving DecidableEq, Repr

/-- The dominant portion in thirds of a bit time; of HOLD, which lasts as long as its demand stands,
the least it lasts (R121). -/
def Symbol.dominantThirds : Symbol → Nat
  | .data0 => 2 | .data1 => 1 | .sos => 9 | .normShort => 3 | .normLong => 6 | .hold => 27

/-- The recessive portion that follows, in thirds of a bit time; HOLD has none (R121). -/
def Symbol.recessiveThirds : Symbol → Option Nat
  | .data0 => some 1 | .data1 => some 2 | .sos => some 3 | .normShort => some 3 | .normLong => some 3
  | .hold => none

/-- The cell length in thirds of a bit time (R121). -/
def Symbol.cellThirds (s : Symbol) : Option Nat := s.recessiveThirds.map (s.dominantThirds + ·)

/-- The symbol of a data bit. -/
def dataSymbol (b : Bool) : Symbol := if b then .data1 else .data0

/-- The data cells of a run of bytes, each byte's most significant bit first, without gaps (R121). -/
def byteSymbols (bytes : List Byte) : List Symbol :=
  (List.range (8 * bytes.length)).filterMap fun cell => (cellOf bytes cell).map dataSymbol

/-- A frame on the line: SOS, then its bytes (R121, R124). -/
def frameSymbols (bytes : List Byte) : List Symbol := .sos :: byteSymbols bytes

/-- A response on the line: a short symbol and the objection byte (R133), or a long symbol and the two
bytes of a reply (R134). -/
def ResponseDrive.symbols (r : ResponseDrive) : List Symbol :=
  (if r.isReply then .normLong else .normShort) :: byteSymbols r.bytes

/-- What the station drives (R121, R138): HOLD while it is demanded, else the frame in flight, else the
response in progress, unless its driving has stopped. -/
def LineControl.driven (l : LineControl) : List Symbol :=
  if l.holdDemand then [.hold]
  else match l.inFlight, l.response with
    | some x, _ => if x.stopped then [] else frameSymbols x.frame.bytes
    | none, some r => if r.stopped then [] else r.symbols
    | none, none => []

/-! ## Levels of the line (08 R122) -/

/-- How a dominant level reads by its length (R122). -/
inductive Level | noise | data1 | data0 | normShort | normLong | sos | faulty | hold
  deriving DecidableEq, Repr

/-- Whether a level of `us` microseconds falls in the shorter of the two bands that share the bound
of `twelfths` twelfths of a bit time; at exactly the bound the free value decides (log 6). -/
def belowBound (tb us twelfths : Nat) : Bool :=
  if 12 * us = twelfths * tb then !Config.sharedBound us else decide (12 * us < twelfths * tb)

/-- R122's bands: 1/6, 1/2, 5/6, 1.5, 2.5, 3.5 and 8 bit times. -/
def classify (tb us : Nat) : Level :=
  if 6 * us < tb then .noise
  else if 8 * tb ≤ us then .hold
  else if belowBound tb us 6 then .data1
  else if belowBound tb us 10 then .data0
  else if 2 * us < 3 * tb then .normShort
  else if belowBound tb us 30 then .normLong
  else if belowBound tb us 42 then .sos
  else .faulty

/-- The data bit of a level, none where it is no data cell. -/
def Level.dataBit : Level → Option Bool
  | .data1 => some true
  | .data0 => some false
  | .noise | .normShort | .normLong | .sos | .faulty | .hold => none

/-- How the first level of a response reads (08, R132). -/
def openingOf (tb us : Nat) : Opening :=
  match classify tb us with
  | .normShort => .short
  | .normLong => .long
  | .noise | .data1 | .data0 | .sos | .faulty | .hold => .misshapen

/-- Whether what was met in phase IDLE is a framing error: a dominant level over 1/6 t_b and below
8 t_b that is no SOS (R123). -/
def idleFramingError (tb : Nat) : FramingCause → Bool
  | .dominant us => match classify tb us with
    | .noise | .sos | .hold => false
    | .data1 | .data0 | .normShort | .normLong | .faulty => true
  | .recessiveInByte _ | .recessiveAfterByte _ | .recessiveAfterSos _ | .fourteenthByte => false

/-- Whether what was met in phase FRAME, after these whole bytes, is a framing error (R123). -/
def frameFramingError (tb : Nat) (bytes : List Byte) : FramingCause → Bool
  | .dominant us => match classify tb us with
    | .normShort | .normLong | .sos | .faulty => true
    | .noise | .data1 | .data0 | .hold => false
  | .recessiveInByte us => decide (tb < us)
  | .recessiveAfterByte us => !bytes.isEmpty && decide (tb < us) && decide (us < 2 * tb)
  | .recessiveAfterSos us => bytes.isEmpty && decide (3 * tb < 2 * us)
  | .fourteenthByte => bytes.length == 13

/-! ## Line frames (08 R124, R125; 12.3) -/

def FrameKind.code : FrameKind → Nat
  | .depart => 0 | .claim => 1 | .command => 2 | .sense => 3 | .status => 4 | .report => 5 | .verdict => 6

def FrameKind.ofCode : Nat → Option FrameKind
  | 0 => some .depart | 1 => some .claim | 2 => some .command | 3 => some .sense
  | 4 => some .status | 5 => some .report | 6 => some .verdict | _ => none

/-- The payload length of a kind (R124). -/
def FrameKind.payloadLength : FrameKind → Nat
  | .depart => 3 | .claim => 9 | .command => 3 | .sense => 8 | .status => 10 | .report => 9 | .verdict => 10

/-- The kind that byte 0 carries, none for code 7 or where byte 0 was not read whole. -/
def frameKind (bytes : List Byte) : Option FrameKind :=
  match bytes with
  | [] => none
  | b :: _ => FrameKind.ofCode (b.toNat / 32)

def frameSource (bytes : List Byte) : StationNo := BitVec.ofNat 4 ((byteAt bytes 0).toNat / 2)
def frameTarget (bytes : List Byte) : StationNo := BitVec.ofNat 4 ((byteAt bytes 1).toNat / 16)
def framePayload (bytes : List Byte) : List Byte := (bytes.drop 2).dropLast

/-- Check 1 of R125, structure. -/
def structureOk (bytes : List Byte) : Bool :=
  match frameKind bytes with
  | none => false
  | some k =>
    decide (3 ≤ bytes.length)
      && !(byteAt bytes 0).getLsbD 0
      && (byteAt bytes 1).toNat % 16 == k.payloadLength
      && bytes.length == 3 + k.payloadLength

/-- Check 2 of R125. -/
def crcOk (bytes : List Byte) : Bool := some (crc8 bytes.dropLast) == bytes.getLast?

/-- The classes of source and target that R124 gives a kind. -/
def addressOk (k : FrameKind) (source target : StationNo) : Bool :=
  match k with
  | .command => source == 15 && target != 15
  | .depart | .claim | .sense | .status | .report | .verdict => source != 15 && target == 15

/-- The reserved fields and codes that 12.3 names for a kind are as they must be (R125 check 3, R171). In
VERDICT and REPORT, which R171 tests no further than their reserved fields, only the codes that their
own tables call reserved are tested: DESIGN CHOICE (log 38), unsafe. -/
def reservedOk (k : FrameKind) (p : List Byte) : Bool :=
  match k with
  | .depart =>
    decide ((byteAt p 0).toNat / 16 ≠ 15) && (byteAt p 2 == 1 || byteAt p 2 == 2)
  | .claim => (byteAt p 1 &&& 0x0F) != 0 && (byteAt p 8 &&& 0x7C) == 0
  | .command => true
  | .sense => decide ((byteAt p 0).toNat ≤ 9) && (byteAt p 2 &&& 0x70) == 0
  | .status =>
    match (byteAt p 0).toNat / 32 with
    | 0 =>
      decide ((byteAt p 0).toNat / 2 % 4 ≠ 3)
        && decide ((byteAt p 1).toNat / 4 ≤ 32)
        && decide ((byteAt p 1).toNat % 4 ≠ 3)
        && !(byteAt p 3).getLsbD 5
    | 1 | 2 | 3 | 4 => (byteAt p 0 &&& 0x1F) == 0 && byteAt p 9 == 0
    | _ => false
  | .report => decide (1 ≤ (byteAt p 0).toNat) && decide ((byteAt p 0).toNat ≤ 5)
  | .verdict => decide ((byteAt p 1).toNat % 16 ≤ 12) && !(byteAt p 2).getLsbD 0

/-- Check 3 of R125, content. -/
def contentOk (bytes : List Byte) : Bool :=
  match frameKind bytes with
  | none => false
  | some k => addressOk k (frameSource bytes) (frameTarget bytes) && reservedOk k (framePayload bytes)

/-- The first check of R125 that a frame fails, none for a frame received good. -/
def frameError (bytes : List Byte) : Option RxError :=
  if !structureOk bytes then some .format
  else if !crcOk bytes then some .crc
  else if !contentOk bytes then some .format
  else none

/-- The payload of a CLAIM (12.3). -/
structure ClaimPayload where
  tag : Tag
  axleCount : Nat
  assessedGross : Nat
  measuredGross : Nat
  dwell : Nat
  entryEnd : SpanEnd
  degraded : Bool
  split : Bool
  deriving DecidableEq, Repr

def claimPayloadOf (p : List Byte) : ClaimPayload :=
  { tag := BitVec.ofNat 12 (fieldAt p 0 2 / 16)
    axleCount := fieldAt p 0 2 % 16
    assessedGross := fieldAt p 2 2
    measuredGross := fieldAt p 4 2
    dwell := fieldAt p 6 2
    entryEnd := if (byteAt p 8).getLsbD 7 then .east else .west
    degraded := (byteAt p 8).getLsbD 1
    split := (byteAt p 8).getLsbD 0 }

/-- The key that a DEPART names (12.3): origin and tag. -/
def departKey (p : List Byte) : StationNo × Tag :=
  (BitVec.ofNat 4 ((byteAt p 0).toNat / 16), BitVec.ofNat 12 (fieldAt p 0 2))

/-! ## Responses (08 R133, R134) -/

/-- The data cells after a normalization symbol: one for each level that is not noise. -/
def responseCells (tb : Nat) (levels : List Nat) : List (Option Bool) :=
  ((levels.map (classify tb)).filter (· ≠ .noise)).map Level.dataBit

/-- The number of data cells that follow a normalization symbol: an objection byte (R133), or a reply
byte and its CRC (R134). The symbol alone says which, whatever the kind of the frame: DESIGN CHOICE (log 45),
unsafe. -/
def Opening.cells : Opening → Nat
  | .short => 8
  | .long => 16
  | .misshapen => 0

/-- Whether a level after the normalization symbol breaks the shape of R133 or R134: no data cell, a
cell too many, or a byte left unfinished. DEDUCED (log 19), unsafe. Which of the two shapes it is held to is
the opening symbol's (log 45). -/
def responseBroken (tb : Nat) (opening : Opening) (levels : List Nat) : Bool :=
  let cells := responseCells tb levels
  cells.any (·.isNone) || decide (opening.cells < cells.length) || cells.length % 8 != 0

/-- Whether what was met in phase RESPONSE, after these whole bytes of the response, breaks the shape of
R133 or R134 (R132): a level that is no data cell, a cell too many, a recessive portion over 1 t_b
inside a byte, or one between the two bytes of a reply. DEDUCED (log 19), unsafe. Which of the two shapes it
is held to is the opening symbol's (log 45). A response whose shape is broken already is read no further. -/
def responseFramingError (tb : Nat) (opening : Opening) (bytes : List Byte) (cause : FramingCause) : Bool :=
  let unfinished := decide (8 * bytes.length < opening.cells)
  opening != .misshapen && match cause with
    | .dominant us => match classify tb us with
      | .noise | .hold => false
      | .data1 | .data0 => !unfinished
      | .normShort | .normLong | .sos | .faulty => true
    | .recessiveInByte us => unfinished && decide (tb < us)
    | .recessiveAfterByte us => unfinished && !bytes.isEmpty && decide (tb < us) && decide (us < 4 * tb)
    | .recessiveAfterSos _ | .fourteenthByte => false

/-- The objection that a claimant reads (R133): a short symbol, eight whole data cells and a reason
code from 1 to 4; anything else is CANNOT_VOUCH with objector 15. -/
def readObjection (tb : Nat) (opening : Option Opening) (levels : List Nat) : Objection :=
  let cells := responseCells tb levels
  let value := cells.foldl (fun acc c => acc * 2 + bit (c.getD false)) 0
  let whole := opening == some .short && !responseBroken tb .short levels && cells.length == 8
  let objector : StationNo := BitVec.ofNat 4 value
  match whole, value / 16 with
  | true, 1 => { reason := .cannotVouch, objector }
  | true, 2 => { reason := .tableFull, objector }
  | true, 3 => { reason := .count, objector }
  | true, 4 => { reason := .budget, objector }
  | _, _ => { reason := .cannotVouch, objector := 15 }

/-! ## Calibration record (12 R172, 10 R158) -/

/-- A run of `n` 16-bit fields from byte `pos`. -/
def fields16 (r : List Byte) (pos n : Nat) : List Nat :=
  (List.range n).map fun i => fieldAt r (pos + 2 * i) 2

def siteOf (r : List Byte) : SiteSection :=
  { axleLimit := fieldAt r 4 2
    grossLimit := fieldAt r 6 2
    claimThreshold := fieldAt r 8 2
    normalTolerance := fieldAt r 10 1
    degradedTolerance := fieldAt r 11 1
    spanBudget := fieldAt r 12 2
    lightAllowance := fieldAt r 14 2
    maxHeavies := fieldAt r 16 1
    dwellMargin := fieldAt r 17 1
    dwellRefSpeed := fieldAt r 18 2
    dwellCap := fieldAt r 20 2
    reopenTime := fieldAt r 22 1
    signHold := fieldAt r 23 1
    matchTolerance := fieldAt r 24 1
    minTransit := fieldAt r 25 2 }

def laneOf (r : List Byte) : LaneSection :=
  { spanEnd := if byteAt r 28 = 2 then .east else .west
    signFitted := byteAt r 29 = 2
    tOn := fieldAt r 30 2
    tOff := fieldAt r 32 2
    rowSpacing := fieldAt r 34 2
    window := fieldAt r 36 1
    vMin := fieldAt r 37 2
    vMax := fieldAt r 39 2
    maxAxleSpacing := fieldAt r 41 2
    stuckLimit := fieldAt r 43 2
    defaultSpeed := fieldAt r 45 2
    lightWheelbase := fieldAt r 47 2
    scaleAL := fieldAt r 49 4
    scaleAR := fieldAt r 53 4
    scaleBL := fieldAt r 57 4
    scaleBR := fieldAt r 61 4
    nodes := fields16 r 65 8
    factors := [fields16 r 81 8, fields16 r 97 8, fields16 r 113 8, fields16 r 129 8]
    tempBounds := [(byteAt r 145).toInt, (byteAt r 146).toInt, (byteAt r 147).toInt]
    decisionDistance := fieldAt r 148 4
    farDistance := fieldAt r 152 4 }

/-- The calibration a valid record gives, with its site checksum (10, R162; 12, R172). -/
def calibrationOf (r : List Byte) : Calibration :=
  { site := siteOf r, lane := laneOf r, checksum := crc16 ((r.drop 4).take 24) }

def strictlyAscending : List Int → Bool
  | [] => true
  | [_] => true
  | a :: b :: l => decide (a < b) && strictlyAscending (b :: l)

def inRange (lo hi n : Nat) : Bool := decide (lo ≤ n) && decide (n ≤ hi)

/-- The 24 checks of R158 in order, true where the check passes. -/
def calibrationChecks (r : List Byte) : List Bool :=
  let site := siteOf r
  let lane := laneOf r
  [ fieldAt r 0 2 == 0x4B32,
    fieldAt r 2 2 == 158 && byteAt r 27 == 0,
    (crc16 (r.take 156)).toNat == fieldAt r 156 2,
    inRange 1 site.grossLimit site.axleLimit && inRange 1 site.grossLimit site.claimThreshold,
    inRange 0 50 site.normalTolerance && inRange site.normalTolerance 100 site.degradedTolerance,
    decide (1 ≤ site.spanBudget) && decide (site.lightAllowance < site.spanBudget),
    inRange 1 16 site.maxHeavies,
    inRange 0 200 site.dwellMargin && inRange 1000 41667 site.dwellRefSpeed,
    inRange 600 6000 site.dwellCap,
    inRange 1 60 site.reopenTime && inRange 2 30 site.signHold,
    inRange 1 100 site.matchTolerance && inRange 0 3000 site.minTransit,
    (byteAt r 28 == 1 || byteAt r 28 == 2) && (byteAt r 29 == 1 || byteAt r 29 == 2),
    decide (0 < lane.tOff) && decide (lane.tOff < lane.tOn) && decide (lane.tOn ≤ 16000),
    inRange 500 6000 lane.rowSpacing,
    inRange 8 255 lane.window,
    decide (1000 ≤ lane.vMin) && decide (lane.vMin < lane.vMax) && decide (lane.vMax ≤ 65535),
    decide (lane.window < deltaMin lane.rowSpacing lane.vMax)
      && decide (deltaMin lane.rowSpacing lane.vMax ≤ deltaMax lane.rowSpacing lane.vMin),
    inRange 2000 30000 lane.maxAxleSpacing && inRange 10 600 lane.stuckLimit,
    inRange lane.vMin lane.vMax lane.defaultSpeed && inRange 1000 6000 lane.lightWheelbase,
    [lane.scaleAL, lane.scaleAR, lane.scaleBL, lane.scaleBR].all (inRange 1000000 4000000000),
    strictlyAscending (lane.nodes.map Int.ofNat) && lane.nodes.all (inRange 1 65535),
    lane.factors.all fun band => band.all (inRange 8192 32767),
    strictlyAscending lane.tempBounds && lane.tempBounds.all fun t => decide (-127 ≤ t) && decide (t ≤ 127),
    inRange 10000 3000000 lane.decisionDistance && inRange 10000 8000000 lane.farDistance ]

/-- The number of the first check that fails, counting from `n`. -/
def firstFailFrom (n : Nat) : List Bool → Option Nat
  | [] => none
  | true :: l => firstFailFrom (n + 1) l
  | false :: _ => some n

/-- The number, 1 to 24, of the first check of R158 that a record fails; none for a valid record. -/
def calibrationFailure (r : List Byte) : Option Nat := firstFailFrom 1 (calibrationChecks r)

end Sys2Proof.Machine
end

