-- ==== Sys2Proof/Machine/Flags.lean ====
section
/-! DEFINITION. Conditions, flags and outputs derived from State: coordination, the lamp commands, FAULT, the flag bytes, and the
payloads of STATUS, SENSE, VERDICT and REPORT frames (00 section 4; 09 R148; 11; 12.3). -/

namespace Sys2Proof.Machine

/-! ## Station conditions -/

/-- The station is coordinated (00, section 4). -/
def State.coordinated (s : State) : Bool :=
  s.control.mode == .active && s.control.calibration.isSome && s.port.head == .ready
    && s.line.state == .normal

/-- The Axle Former reports itself empty (02, R34). -/
def AxleFormer.isEmpty (f : AxleFormer) : Bool :=
  f.openA.isNone && f.openB.isNone && f.waitingB.isEmpty && f.pendingA.isEmpty

/-- The Axle Former is held (02, R35). -/
def State.held (s : State) : Bool :=
  s.control.load.isSome || decide (closedQueueCapacity ≤ s.assembler.closedQueue.length)

/-- The aging horizon (02, R22): the settled index while the pulse queue is empty, else the note of
the record at its head. -/
def State.horizon (s : State) : Option Index :=
  match s.detector.queue with
  | [] => s.detector.settled
  | q :: _ => q.note

/-- The lane is empty (10, R157). -/
def State.laneEmpty (s : State) : Bool := s.assembler.vehicle.isNone && s.former.isEmpty

/-- The line is held (09, R145). -/
def State.lineHeld (s : State) : Bool := s.line.phase == .hold

/-- A CLAIM frame of this station is in flight (05, R71). -/
def State.claimInFlight (s : State) : Bool := s.line.inFlight.any (·.frame.kind == .claim)

/-! ## Outputs -/

/-- The divert-all condition (09, R148). -/
def State.divertAll (s : State) : Bool := !s.coordinated || s.sign.closure != .opened

/-- The DIVERT command (09, R148). -/
def State.divertCommand (s : State) : Bool := s.divertAll || s.sign.holdUntil.isSome

/-- The CLOSED command (09, R148). -/
def State.closedCommand (s : State) : Bool := s.sign.closure != .opened

/-- The FAULT output (11, R166). -/
def State.faultOutput (s : State) : Bool := s.control.sense.isSome || s.control.mode == .failed

/-- The lamp feedback check is made (09, R151). -/
def State.lampCheck (s : State) : Bool := (s.lane?.map LaneSection.signFitted).getD false

/-- The disagreement of a lamp, if it disagrees (09, R150). -/
def disagreement (command current : Bool) : Option Disagreement :=
  match command, current with
  | true, false => some .dark
  | false, true => some .lit
  | true, true => none
  | false, false => none

/-! ## Vehicle flags -/

def VehicleFlags.none : VehicleFlags :=
  { gap := false, oneSided := false, singleRow := false, split := false, stalled := false,
    axleOverflow := false, saturated := false, tempOut := false }

/-- A record is degraded (04, R63). -/
def VehicleFlags.degraded (f : VehicleFlags) : Bool :=
  f.gap || f.oneSided || f.singleRow || f.stalled || f.tempOut

/-- The flags from bit 7 down (12.3, VERDICT byte 3). -/
def VehicleFlags.toByte (f : VehicleFlags) : Byte :=
  byteOf (128 * bit f.gap + 64 * bit f.oneSided + 32 * bit f.singleRow + 16 * bit f.split
    + 8 * bit f.stalled + 4 * bit f.axleOverflow + 2 * bit f.saturated + bit f.tempOut)

/-- The seven mask bits in the positions of STATUS page 0, byte 2; bit 0 clear (12.3). -/
def SelfTestMask.toByte (m : SelfTestMask) : Byte :=
  byteOf (128 * bit m.memTable + 64 * bit m.memHistory + 32 * bit m.memQueue + 16 * bit m.lineLoop
    + 8 * bit m.calPort + 4 * bit m.strap + 2 * bit m.head)

/-! ## Codes (12.3) -/

def Verdict.code : Verdict → Nat
  | .light => 0 | .heavy => 1 | .overlimit => 2 | .unweighed => 3

def VehicleOutcome.code : VehicleOutcome → Nat
  | .proceed => 1 | .admitted => 2 | .divertLimit => 3 | .divertRefused => 4 | .divertLate => 5
  | .divertQueue => 6 | .divertClosed => 7 | .divertUncoordinated => 8 | .divertUnweighed => 9
  | .exitMatched => 10 | .exitUnmatched => 11 | .exitLight => 12

/-- The outcomes that begin DIVERT_ (05, R77). -/
def VehicleOutcome.isDivert : VehicleOutcome → Bool
  | .divertLimit | .divertRefused | .divertLate | .divertQueue | .divertClosed
  | .divertUncoordinated | .divertUnweighed => true
  | .proceed | .admitted | .exitMatched | .exitUnmatched | .exitLight => false

def Reason.code : Reason → Nat
  | .cannotVouch => 1 | .tableFull => 2 | .count => 3 | .budget => 4

/-- The objection byte (06, R99). -/
def Objection.toByte (o : Objection) : Byte := byteOf (16 * o.reason.code + o.objector.toNat)

def SenseCode.code : SenseCode → Nat
  | .selfTest => 1 | .calInvalid => 2 | .calPort => 3 | .headAbsent => 4 | .headLost => 5
  | .lineFault => 6 | .identity => 7 | .signFault => 8 | .siteMismatch => 9

def Mode.code : Mode → Nat
  | .starting => 0 | .learning => 1 | .active => 2 | .failed => 3

def LineState.code : LineState → Nat
  | .normal => 0 | .isolated => 1 | .listenOnly => 2

def Closure.code : Closure → Nat
  | .opened => 0 | .held => 1 | .reopening => 2

def roleCode : Role → Nat
  | .entry => 0 | .exit => 1

/-! ## Payloads the station builds -/

/-- The site checksum, 0 while calibration is ABSENT (10, R162). -/
def State.siteChecksum (s : State) : BitVec 16 := (s.control.calibration.map Calibration.checksum).getD 0

/-- STATUS page 0 (11 R167, 12.3). -/
def State.statusPage0 (s : State) : List Byte :=
  [ byteOf (8 * s.control.mode.code + 2 * s.line.state.code + roleCode s.control.straps.role),
    byteOf (4 * s.span.count + s.sign.closure.code),
    s.control.mask.toByte ||| byteOf (bit s.sign.longHold),
    byteOf (128 * bit s.control.calibration.isSome + 64 * bit (s.port.head == .ready)
      + s.span.sum / 65536 % 32),
    byteOf (s.span.sum / 256), byteOf s.span.sum ]
  ++ be16 s.siteChecksum.toNat ++ [s.span.duplicates, s.span.lost]

/-- A counter page of STATUS (12.3): page number in bits 7 to 5, four counters, a reserved byte. -/
def counterPage (page : Nat) (a b c d : Counter) : List Byte :=
  byteOf (32 * page) :: be16 a.toNat ++ be16 b.toNat ++ be16 c.toNat ++ be16 d.toNat ++ [0]

/-- The content of a STATUS page (11, R167). -/
def State.statusPayload (s : State) (page : Nat) : List Byte :=
  let c := s.counters
  match page with
  | 0 => s.statusPage0
  | 1 => counterPage 1 c.framesSent c.arbitrationLosses c.bitErrors c.noEchoFaults
  | 2 => counterPage 2 c.crcErrors c.formatErrors c.framingErrors c.holdEvents
  | 3 => counterPage 3 c.claimsOffered c.claimsGranted c.objectionsSent c.unknownDepartures
  | _ => counterPage 4 c.sampleCrcErrors c.sampleGaps c.vehiclesClosed c.txDrops

/-- The content of a SENSE frame (11 R166, 12.3): the pending record, or code 0 if none is pending.
The reference bits of a record without a reference are free (log 21). -/
def State.sensePayload (s : State) : List Byte :=
  match s.control.sense with
  | none => [0, 0, 0, 0, 0, 0, 0, s.control.lostSense]
  | some r =>
    let reference := match r.reference with
      | some n => byteOf (128 + n.toNat)
      | none => byteOf (Config.absentReference r.raised).toNat
    [byteOf r.code.code, r.detail, reference] ++ be32 r.raised.toNat ++ [s.control.lostSense]

/-- A speed in km/h, round half up of v × 36 / 10 000, 0 if absent (11, R168). -/
def speedKmh (v : Option Nat) : Nat := roundHalfUp (v.getD 0 * 36) 10000

/-- The deadline field of a VERDICT (11 R168, 12.3): the signed difference from the close time in units
of 100 ms, floor; −32 768 if there is no deadline. Outside the field it is free (log 22). -/
def deadlineField (deadline : Option Time) (closeTime : Time) : BitVec 16 :=
  match deadline with
  | none => 0x8000
  | some d =>
    let units := modDiff d closeTime / 100
    if -32767 ≤ units ∧ units ≤ 32767 then BitVec.ofInt 16 units else Config.deadlineField units

/-- The content of a VERDICT (11 R168, 12.3). -/
def verdictPayload (r : VehicleRecord) : List Byte :=
  be16 (16 * r.tag.toNat + (r.outcome.map VehicleOutcome.code).getD 0)
  ++ [ byteOf (64 * ((r.verdict.map Verdict.code).getD 3) + 32 * bit r.lightMark + 2 * (r.axleCount % 16)),
       r.flags.toByte ]
  ++ be16 r.measuredGross
  ++ [byteOf (speedKmh r.speed), (r.lastObjection.map Objection.toByte).getD 0]
  ++ be16 (deadlineField r.deadline r.closeTime).toNat

/-- REPORT OVERDUE (11 R169, 12.3). -/
def overduePayload (e : SpanEntry) : List Byte :=
  1 :: be16 (16 * e.tag.toNat + e.axleCount % 16) ++ be16 e.measuredGross ++ be16 e.assessedGross
    ++ be16 e.dwell

/-- REPORT UNMATCHED (11 R169, 12.3). -/
def unmatchedPayload (r : VehicleRecord) : List Byte :=
  2 :: be16 (16 * r.tag.toNat + r.axleCount % 16) ++ be16 r.measuredGross ++ be16 r.assessedGross
    ++ [byteOf (speedKmh r.speed), r.flags.toByte]

/-- REPORT SIGN_FAULT (11 R169, 12.3). -/
def signFaultPayload (detail : Byte) : List Byte := [3, detail, 0, 0, 0, 0, 0, 0, 0]

/-- REPORT AXLES (11 R170, 12.3). -/
def axlesPayload (tag : Tag) (part a b c : Nat) : List Byte :=
  4 :: be16 (16 * tag.toNat + part) ++ be16 a ++ be16 b ++ be16 c

/-- REPORT SITE_MISMATCH (11 R169, 12.3). -/
def mismatchPayload (peer : StationNo) (own theirs : BitVec 16) : List Byte :=
  5 :: byteOf peer.toNat :: be16 own.toNat ++ be16 theirs.toNat ++ [0, 0, 0]

/-- The payload of a DEPART; reason 1 EXITED, 2 WITHDRAWN (12.3). -/
def departPayload (origin : StationNo) (tag : Tag) (reason : Byte) : List Byte :=
  be16 (4096 * origin.toNat + tag.toNat) ++ [reason]

/-- The payload of a CLAIM (05 R78, 12.3). -/
def claimPayload (r : VehicleRecord) (dwell : Nat) (entryEnd : SpanEnd) : List Byte :=
  be16 (16 * r.tag.toNat + r.axleCount % 16) ++ be16 r.assessedGross ++ be16 r.measuredGross
    ++ be16 dwell
    ++ [byteOf (128 * bit (entryEnd == .east) + 2 * bit r.flags.degraded + bit r.flags.split)]

end Sys2Proof.Machine
end

