-- ==== Sys2Proof/Machine/Ops.lean ====
section
/-! DEFINITION. The named operations that the commands share: time, counters, sense records, the transmit queue, the Span
Table, claims and vehicles, coordination, learning, and the outputs settled after every command. -/

namespace Sys2Proof.Machine

/-! ## Time, counters, sense records -/

/-- Station time moves on by the time since the command before (00 R1, log 1). -/
def State.advance (s : State) (dt : Time) : State := { s with now := s.now + dt }

/-- A station time `ms` milliseconds from now. -/
def State.after (s : State) (ms : Nat) : Time := s.now + span32 ms

/-- A timer that is running and has reached its end. -/
def State.expired (s : State) (timer : Option Time) : Bool := timer.any (reached s.now)

/-- Raising a sense record (11, R166). -/
def State.raise (s : State) (code : SenseCode) (detail : Byte) (reference : Option StationNo) : State :=
  match s.control.sense with
  | none =>
    { s with control := { s.control with sense := some { code, detail, reference, raised := s.now } } }
  | some _ => { s with control := { s.control with lostSense := bump s.control.lostSense } }

/-- A divert notice (09, R149). -/
def State.divertNotice (s : State) : State :=
  let t := s.after (s.signHold * 1000)
  { s with sign := { s.sign with holdUntil := some (match s.sign.holdUntil with
      | none => t
      | some h => later h t) } }

/-! ## Transmit queue (08, R124, R135, R136) -/

/-- A frame as the Line Controller builds it: source the strapped number, version 0, target 15 (every
kind a station sends has that target), the kind's payload length, and the CRC (08, R124). -/
def frameBytes (source : StationNo) (kind : FrameKind) (payload : List Byte) : List Byte :=
  let body := byteOf (32 * kind.code + 2 * source.toNat) :: byteOf (240 + kind.payloadLength) :: payload
  body ++ [crc8 body]

/-- The frame is driven no further, though its attempt has not ended (R138). -/
def InFlight.stop (x : InFlight) : InFlight := { x with stopped := true }

/-- The response is driven no further. -/
def ResponseDrive.stop (r : ResponseDrive) : ResponseDrive := { r with stopped := true }

/-- The response in progress, if there is one, is driven no further. -/
def LineControl.stopResponse (l : LineControl) : LineControl :=
  { l with response := l.response.map ResponseDrive.stop }

/-- A place in the order of arrival later than every frame held or in flight. -/
def LineControl.nextArrival (l : LineControl) : Nat :=
  let flying := (l.inFlight.map (·.frame.arrival)).getD 0
  let isolation := (l.isolationFrame.map TxFrame.arrival).getD 0
  (l.txq.map TxFrame.arrival).foldl max (max flying isolation) + 1

/-- Joining the queue: after every frame of the same or a lower kind code (R135). -/
def insertFrame (f : TxFrame) : List TxFrame → List TxFrame
  | [] => [f]
  | g :: l => if f.kind.code < g.kind.code then f :: g :: l else g :: insertFrame f l

/-- VERDICT and REPORT are the kinds that give way (R136). -/
def FrameKind.droppable : FrameKind → Bool
  | .verdict | .report => true
  | .depart | .claim | .command | .sense | .status => false

/-- The frame is the one in flight. -/
def LineControl.flying (l : LineControl) (f : TxFrame) : Bool :=
  l.inFlight.any (·.frame.arrival == f.arrival)

/-- The youngest VERDICT or REPORT not in flight, by arrival (R136). -/
def LineControl.youngestDroppable (l : LineControl) : Option TxFrame :=
  l.txq.foldl (fun best f =>
    if f.kind.droppable && !l.flying f then
      match best with
      | none => some f
      | some b => if b.arrival < f.arrival then some f else best
    else best) none

/-- The queue would take a frame of this kind without discarding it (R136). -/
def State.hasRoom (s : State) (kind : FrameKind) : Bool :=
  decide (s.line.txq.length < txCapacity) || (!kind.droppable && s.line.youngestDroppable.isSome)

/-- One more transmit-queue drop. -/
def State.countDrop (s : State) : State :=
  { s with counters := { s.counters with txDrops := bump s.counters.txDrops } }

/-- A frame arrives at the transmit queue (R136). The second part is the frame it displaced. A replay
frame that is discarded ends its replay (11, R170). -/
def State.putFrame (s : State) (kind : FrameKind) (use : FrameUse) (payload : List Byte) :
    State × Option TxFrame :=
  let f : TxFrame :=
    { kind, bytes := frameBytes s.control.straps.number kind payload, use, arrival := s.line.nextArrival }
  if s.line.txq.length < txCapacity then
    ({ s with line := { s.line with txq := insertFrame f s.line.txq } }, none)
  else
    match (if kind.droppable then none else s.line.youngestDroppable) with
    | some d =>
      ({ s with line := { s.line with txq := insertFrame f (s.line.txq.erase d) } }.countDrop, some d)
    | none =>
      let s := s.countDrop
      (if use == .replay then { s with handler := { s.handler with replay := none } } else s, none)

/-- The next frame of the replay in progress is queued, or the replay is over (11, R170). A frame discarded here
needs no pre-check of its own (08 R135): one has just been made, for the frame that left
(`preCheck_replayAfter`). -/
def State.replayNext (s : State) : State :=
  match s.handler.replay with
  | none => s
  | some [] => { s with handler := { s.handler with replay := none } }
  | some (f :: rest) =>
    ({ s with handler := { s.handler with replay := some rest } }.putFrame f.kind .replay f.payload).1

/-- What follows when a frame has left the queue: a replay goes on (11, R170). -/
def State.replayAfter (s : State) (f : TxFrame) : State :=
  if f.use == .replay then s.replayNext else s

/-! ## Span Table (06) -/

/-- An entry has this key (R91). -/
def SpanEntry.hasKey (e : SpanEntry) (origin : StationNo) (tag : Tag) : Bool :=
  e.origin == origin && e.tag == tag

/-- The table holds the key. -/
def SpanTable.holds (t : SpanTable) (origin : StationNo) (tag : Tag) : Bool :=
  t.entries.any (·.hasKey origin tag)

/-- The three tests of R94 in their order; the first that fails gives the reason. -/
def claimTest (site : SiteSection) (t : SpanTable) (assessed : Nat) : Option Reason :=
  if spanCapacity ≤ t.entries.length then some .tableFull
  else if site.maxHeavies < t.count + 1 then some .count
  else if site.spanBudget < t.sum + site.lightAllowance + assessed then some .budget
  else none

/-- The claim passes R94 under the calibration in force; while it is ABSENT no test is made (R92). -/
def State.claimPasses (s : State) (assessed : Nat) : Bool :=
  match s.site? with
  | none => false
  | some site => (claimTest site s.span assessed).isNone

/-- The entry that a granted CLAIM gives at the present station time (R91, R96). -/
def State.entryOf (s : State) (origin : StationNo) (p : ClaimPayload) : SpanEntry :=
  let dwell := min (max p.dwell 1) s.dwellCap
  { origin, tag := p.tag, entryEnd := p.entryEnd, axleCount := p.axleCount,
    measuredGross := p.measuredGross, assessedGross := p.assessedGross, dwell, admission := s.now,
    expiry := s.after (dwell * 100), departing := false }

/-- A grant reaches the Span Table (R96, R100); a FAILED station adds nothing (R109). -/
def State.addEntry (s : State) (origin : StationNo) (p : ClaimPayload) : State :=
  if s.control.mode == .failed then s
  else if s.span.holds origin p.tag then
    { s with span := { s.span with duplicates := bump s.span.duplicates } }
  else if spanCapacity ≤ s.span.entries.length then
    { s with span := { s.span with lost := bump s.span.lost } }
  else
    let e := s.entryOf origin p
    { s with span := { s.span with entries := s.span.entries ++ [e], sum := s.span.sum + e.assessedGross,
                                   count := s.span.count + 1 } }

/-- An entry leaves the table (R93). -/
def SpanTable.remove (t : SpanTable) (e : SpanEntry) : SpanTable :=
  { t with entries := t.entries.erase e, sum := t.sum - e.assessedGross, count := t.count - 1 }

/-- The table is emptied (R109). -/
def SpanTable.clear (t : SpanTable) : SpanTable := { t with entries := [], sum := 0, count := 0 }

/-! ## Claims: the CLAIM frame and the pre-check (05, R78, R79) -/

/-- The head claim becomes `c`. -/
def State.setHeadClaim (s : State) (c : Claim) : State :=
  { s with admission := { s.admission with claims := c :: s.admission.claims.tail } }

/-- The claim with this tag becomes `f` of itself. A claim is known by its vehicle's tag alone, so two that
shared one would change together: DESIGN CHOICE (log 44), unsafe. -/
def State.mapClaim (s : State) (tag : Tag) (f : Claim → Claim) : State :=
  { s with admission := { s.admission with
      claims := s.admission.claims.map fun c => if c.vehicle.tag == tag then f c else c } }

/-- The claim with this tag leaves the queue; two that shared a tag would leave together: DESIGN CHOICE
(log 44), unsafe. -/
def State.dropClaim (s : State) (tag : Tag) : State :=
  { s with admission := { s.admission with
      claims := s.admission.claims.filter fun c => c.vehicle.tag != tag } }

/-- The end of the span at which this lane enters it, or at which this exit station stands. -/
def State.spanEnd (s : State) : SpanEnd := (s.lane?.map LaneSection.spanEnd).getD .west

/-- A claim that a CLAIM frame could be offered for now: coordinated, closure OPEN, and the tests of
R94 pass (R79, R80). -/
def State.offerable (s : State) (c : Claim) : Bool :=
  s.coordinated && s.sign.closure == .opened && s.claimPasses c.vehicle.assessedGross

/-- The pre-check of the head claim (R79): its frame is queued if it is WAITING and all holds. -/
def State.preCheck (s : State) : State :=
  match s.admission.claims with
  | [] => s
  | c :: _ =>
    if c.state == .waiting && s.offerable c && s.hasRoom .claim then
      let r := s.putFrame .claim .ordinary (claimPayload c.vehicle c.dwell s.spanEnd)
      let s := r.1.setHeadClaim { c with state := .offeredQueued }
      match r.2 with
      | none => s
      | some d => s.replayAfter d
    else s

/-- A frame arrives at the transmit queue. Where the queue is full a frame leaves, the one displaced or the one
discarded: the head claim is pre-checked, and a replay whose frame was displaced goes on (08 R135, R136;
order of the two: log 18). -/
def State.enqueue (s : State) (kind : FrameKind) (use : FrameUse) (payload : List Byte) : State :=
  let r := s.putFrame kind use payload
  if s.line.txq.length < txCapacity then r.1
  else match r.2 with
    | none => r.1.preCheck
    | some d => r.1.preCheck.replayAfter d

/-- A frame leaves the queue; what follows from its leaving is the caller's. -/
def State.removeFrame (s : State) (f : TxFrame) : State :=
  { s with line := { s.line with txq := s.line.txq.filter fun g => g.arrival != f.arrival } }

/-- The CLAIM frame, if one is held, leaves the queue (R135: there is at most one). -/
def State.removeClaimFrame (s : State) : State :=
  { s with line := { s.line with txq := s.line.txq.filter fun g => g.kind != .claim } }

/-! ## Finishing vehicles and ending claims (03 R52; 05 R77, R86 to R90) -/

/-- A record is copied into the history ring, over the oldest when it is full (R52). -/
def pushHistory (ring : List VehicleRecord) (r : VehicleRecord) : List VehicleRecord :=
  (if ring.length < historyCapacity then ring else ring.tail) ++ [r]

def State.remember (s : State) (r : VehicleRecord) : State :=
  { s with assembler := { s.assembler with history := pushHistory s.assembler.history r } }

/-- The ring copy with the record's tag takes its outcome and last objection (R52, R77). -/
def State.recall (s : State) (r : VehicleRecord) : State :=
  { s with assembler := { s.assembler with history := s.assembler.history.map fun h =>
      if h.tag == r.tag then { h with outcome := r.outcome, lastObjection := r.lastObjection } else h } }

/-- What every finishing ends with: the VERDICT frame, and a divert notice for a diversion (R77). -/
def State.announce (s : State) (r : VehicleRecord) (o : VehicleOutcome) : State :=
  let s := s.enqueue .verdict .ordinary (verdictPayload r)
  if o.isDivert then s.divertNotice else s

/-- A vehicle that had no claim is finished (R77, R117). -/
def State.finishVehicle (s : State) (r : VehicleRecord) (o : VehicleOutcome) : State :=
  let r := { r with outcome := some o }
  (s.remember r).announce r o

/-- The record of a claim's vehicle at its finishing (R77). -/
def Claim.finished (c : Claim) (o : VehicleOutcome) : VehicleRecord :=
  { c.vehicle with outcome := some o, lastObjection := c.lastObjection }

/-- The vehicle of a claim is finished (R77). -/
def State.finishClaim (s : State) (c : Claim) (o : VehicleOutcome) : State :=
  (s.recall (c.finished o)).announce (c.finished o) o

/-- A claim leaves the queue with its frame, and its vehicle is finished unless it was late-marked
(R84, R86, R89, R90). What follows for the next claim is the caller's. -/
def State.endClaim (s : State) (c : Claim) (o : VehicleOutcome) : State :=
  let s := s.dropClaim c.vehicle.tag
  let s := match c.state with
    | .offeredQueued | .offeredInFlight => s.removeClaimFrame
    | .waiting | .backoff _ => s
  match c.lateMark with
  | none => s.finishClaim c o
  | some _ => s

/-- Claims end together in queue order (R89, R90). -/
def State.endClaims (s : State) (cs : List Claim) (o : VehicleOutcome) : State :=
  cs.foldl (fun s c => s.endClaim c o) s

/-- The outcome at a deadline (R86, R87). -/
def Claim.lateOutcome (c : Claim) : VehicleOutcome :=
  if c.objectionSeen then .divertRefused else .divertLate

/-! ## Closure and coordination -/

/-- Entry to HELD: the reopen timer stops and every claim ends as DIVERT_CLOSED (05 R89; 09 R145,
R146). In HELD it changes nothing. -/
def State.enterHeld (s : State) : State :=
  if s.sign.closure == .held then s
  else
    let s := { s with sign := { s.sign with closure := .held, reopenTimer := none } }
    s.endClaims s.admission.claims .divertClosed

/-- HELD is left for REOPENING (09, R145). -/
def State.enterReopening (s : State) : State :=
  { s with sign := { s.sign with closure := .reopening,
                                 reopenTimer := some (s.after (s.reopenTime * 1000)) } }

/-- A station that is not coordinated ends every claim not in flight (05, R90). -/
def State.dropUncoordinated (s : State) : State :=
  if s.coordinated then s
  else s.endClaims (s.admission.claims.filter fun c => c.state != .offeredInFlight) .divertUncoordinated

/-- Learning starts: the mode becomes LEARNING and the learning timer runs for the dwell cap, or for
600 s while calibration is ABSENT (06, R106). -/
def State.startLearning (s : State) : State :=
  let ms := (s.site?.map fun site => site.dwellCap * 100).getD learningWithoutCalibration
  { s with control := { s.control with
      mode := .learning, learning := some { start := s.now, finish := s.after ms } } }

/-- The line state becomes ISOLATED (08, R139). -/
def State.isolate (s : State) : State :=
  let s := { s with line := { s.line with
    state := .isolated, isolationTimer := some (s.after isolationTime) } }
  (s.raise .lineFault 0 none).dropUncoordinated

/-! ## Outputs settled after every command -/

/-- A lamp under the check of R150: its fault mark clears when it agrees, its disagreement timer
starts, stops, or starts afresh when the disagreement changes kind. -/
def LampState.settle (l : LampState) (now : Time) (command check : Bool) : LampState :=
  if check then
    match disagreement command l.current with
    | none => { l with command, mark := false, timer := none }
    | some k =>
      let fresh : LampTimer := { kind := k, start := now }
      { l with command, timer := some (match l.timer with
          | none => fresh
          | some t => if t.kind = k then t else fresh) }
  else { l with command, mark := false, timer := none }

/-- The long-hold timer runs while the line is held and CLOSE_IN is deasserted (09, R147). -/
def State.settleLongHold (s : State) : State :=
  { s with sign := { s.sign with longHoldTimer :=
      if s.lineHeld && !s.sign.closeIn then some (s.sign.longHoldTimer.getD s.now) else none } }

/-- Both lamps (09, R148, R150, R151). -/
def State.settleLamps (s : State) : State :=
  { s with sign := { s.sign with
      divert := s.sign.divert.settle s.now s.divertCommand s.lampCheck
      closed := s.sign.closed.settle s.now s.closedCommand s.lampCheck } }

/-- FAULT (11, R166). -/
def State.settleFault (s : State) : State := { s with control := { s.control with fault := s.faultOutput } }

/-- What every command ends with: the outputs and the timers that follow conditions change at the
event that changes their inputs (09, R148). -/
def State.settle (s : State) : State := s.settleLongHold.settleLamps.settleFault

/-- A step of the block never stops. -/
def done (s : State) : Host.Outcome State Fault Refusal := .next s.settle

end Sys2Proof.Machine
end

