-- ==== Sys2Proof/Machine/Admit.lean ====
section
/-! DEFINITION. The Admission Unit: ACCEPT_RECORD, BACKOFF_EXPIRY, DEADLINE_EXPIRY, and what becomes of a claim when its frame
ends (05). -/

namespace Sys2Proof.Machine

/-! ## Deadline and dwell (R74, R75) -/

/-- The deadline: first row-B stamp plus floor(S_d × 1 000 / v) ms (R74). A weighed HEAVY record has
both the stamp and the speed; without them the value is never used (log 23). -/
def deadlineOf (decisionDistance : Nat) (r : VehicleRecord) : Time :=
  r.firstRowB.getD r.firstStamp + span32 (decisionDistance * 1000 / r.speed.getD 0)

/-- The dwell in ds (R75). -/
def dwellOf (site : SiteSection) (farDistance speed : Nat) : Nat :=
  let v := min speed site.dwellRefSpeed
  min (max (ceilDiv (farDistance * (100 + site.dwellMargin) * 10) (v * 100)) 1) site.dwellCap

/-! ## Taking a weighed vehicle (R72, R73, R76) -/

/-- The outcome of a record whose verdict is not HEAVY (R72). -/
def plainOutcome (closure : Closure) (verdict : Verdict) (lightMark : Bool) : VehicleOutcome :=
  match verdict, lightMark with
  | .light, _ => .proceed
  | .unweighed, true => .proceed
  | .overlimit, _ => if closure = .opened then .divertLimit else .divertClosed
  | .unweighed, false => if closure = .opened then .divertUnweighed else .divertClosed
  | .heavy, _ => .divertUncoordinated

/-- The place a deadline gives, after equal and earlier ones (R76). -/
def insertClaim (c : Claim) : List Claim → List Claim
  | [] => [c]
  | d :: l => if 0 ≤ modDiff c.deadline d.deadline then d :: insertClaim c l else c :: d :: l

/-- A new head displaces the former one (R76): an offered frame is removed, its claim is WAITING. -/
def State.displaceHead (s : State) : State :=
  match s.admission.claims with
  | [] => s
  | c :: _ =>
    if c.state = .offeredQueued then (s.setHeadClaim { c with state := .waiting }).removeClaimFrame else s

/-- A claim is placed (R76). One whose deadline has come already ends at once, in WAITING (R86). -/
def State.placeClaim (s : State) (c : Claim) : State :=
  let isHead := match s.admission.claims with
    | [] => true
    | d :: _ => decide (modDiff c.deadline d.deadline < 0)
  let s := if isHead then s.displaceHead else s
  let s := { s with admission := { s.admission with claims := insertClaim c s.admission.claims } }
  let s := s.remember c.vehicle
  let s := if reached s.now c.deadline then s.endClaim c c.lateOutcome else s
  if isHead then s.preCheck else s

/-- A HEAVY record (R73). -/
def State.acceptHeavy (s : State) (r : VehicleRecord) : State :=
  if s.sign.closure != .opened then s.finishVehicle r .divertClosed
  else match s.coordinated, s.control.calibration with
    | true, some cal =>
      let deadline := deadlineOf cal.lane.decisionDistance r
      let r := { r with deadline := some deadline }
      if reached r.closeTime deadline then s.finishVehicle r .divertLate
      else if claimCapacity ≤ s.admission.claims.length then s.finishVehicle r .divertQueue
      else s.placeClaim
        { vehicle := r, deadline, dwell := dwellOf cal.site cal.lane.farDistance (r.speed.getD 0)
          state := .waiting, objectionSeen := false, lastObjection := none, lateMark := none }
    | _, _ => s.finishVehicle r .divertUncoordinated

/-- ACCEPT_RECORD (R71): once no CLAIM frame of this station is in flight. -/
def acceptRecordStep (s : State) : State :=
  match s.admission.waiting with
  | none => s
  | some r =>
    if s.claimInFlight then s
    else
      let s := { s with admission := { s.admission with waiting := none } }
      match r.verdict.getD .unweighed with
      | .heavy => s.acceptHeavy r
      | v => s.finishVehicle r (plainOutcome s.sign.closure v r.lightMark)

/-! ## Timers (R85 to R87) -/

/-- The claim is the head claim. -/
def State.isHeadClaim (s : State) (tag : Tag) : Bool :=
  (s.admission.claims.head?.map fun c => c.vehicle.tag == tag).getD false

/-- BACKOFF_EXPIRY (R85). -/
def backoffExpiryStep (s : State) (tag : Tag) : State :=
  match s.admission.claims.find? (fun c => c.vehicle.tag == tag) with
  | none => s
  | some c =>
    match c.state with
    | .backoff t =>
      if reached s.now t then
        let s := s.mapClaim tag fun c => { c with state := .waiting }
        if s.isHeadClaim tag then s.preCheck else s
      else s
    | .waiting | .offeredQueued | .offeredInFlight => s

/-- A deadline while the frame is in flight (R87): the vehicle is finished, the claim late-marked. -/
def State.markLate (s : State) (c : Claim) : State :=
  let o := c.lateOutcome
  (s.mapClaim c.vehicle.tag fun d => { d with lateMark := some o, vehicle := c.finished o }).finishClaim c o

/-- DEADLINE_EXPIRY (R86, R87). -/
def deadlineExpiryStep (s : State) (tag : Tag) : State :=
  match s.admission.claims.find? (fun c => c.vehicle.tag == tag) with
  | none => s
  | some c =>
    if reached s.now c.deadline && c.lateMark.isNone then
      if c.state = .offeredInFlight then s.markLate c
      else
        let wasHead := s.isHeadClaim tag
        let s := s.endClaim c c.lateOutcome
        if wasHead then s.preCheck else s
    else s

/-! ## What a claim's frame does to the claim (R80, R82) -/

/-- The offered claim's frame goes on the line (R80). -/
def Claim.takeOff (c : Claim) : Claim :=
  if c.state = .offeredQueued then { c with state := .offeredInFlight } else c

/-- The offered claim's frame is taken back (R76, R80). -/
def Claim.callBack (c : Claim) : Claim :=
  if c.state = .offeredQueued then { c with state := .waiting } else c

/-- A response begins after the claim's frame (R82, R95). -/
def Claim.sawResponse (c : Claim) : Claim :=
  if c.state = .offeredInFlight ∧ c.lateMark = none then { c with objectionSeen := true } else c

/-- A change of every claim it applies to. -/
def State.updateClaims (s : State) (f : Claim → Claim) : State :=
  { s with admission := { s.admission with claims := s.admission.claims.map f } }

/-! ## The end of a CLAIM frame (R81 to R84, R88, R90) -/

/-- The claim whose frame is in flight. -/
def State.flyingClaim (s : State) : Option Claim :=
  s.admission.claims.find? fun c => c.state == .offeredInFlight

/-- A granted own CLAIM (R81, R88): this station adds its own entry; then the vehicle is ADMITTED, or
the late grant is withdrawn by a DEPART. -/
def State.claimGranted (s : State) (payload : List Byte) : State :=
  let s := s.addEntry s.control.straps.number (claimPayloadOf payload)
  let s := { s with counters := { s.counters with claimsGranted := bump s.counters.claimsGranted } }
  match s.flyingClaim with
  | none => s
  | some c =>
    match c.lateMark with
    | none => (s.dropClaim c.vehicle.tag).finishClaim c .admitted
    | some _ =>
      (s.enqueue .depart .ordinary
        (departPayload s.control.straps.number c.vehicle.tag 2)).dropClaim c.vehicle.tag

/-- An own CLAIM that drew an objection (R82): BACKOFF for 500 ms; a late-marked claim leaves (R88). -/
def State.claimObjected (s : State) (o : Objection) : State :=
  match s.flyingClaim with
  | none => s
  | some c =>
    match c.lateMark with
    | some _ => s.dropClaim c.vehicle.tag
    | none => s.mapClaim c.vehicle.tag fun c =>
        { c with state := .backoff (s.after backoffTime), objectionSeen := true, lastObjection := some o }

/-- An attempt of the own CLAIM ended by arbitration loss, bit error or echo fault (R83): the claim
stays OFFERED with its frame queued; a late-marked one leaves with its frame (R88), and the next head
claim is pre-checked at once, at a third echo fault before the line state becomes ISOLATED: DESIGN
CHOICE (log 41), unsafe. -/
def State.claimAttemptEnded (s : State) : State :=
  match s.flyingClaim with
  | none => s
  | some c =>
    match c.lateMark with
    | some _ => (s.dropClaim c.vehicle.tag).removeClaimFrame.preCheck
    | none => s.mapClaim c.vehicle.tag fun c => { c with state := .offeredQueued }

/-- HOLD ends the claim in flight (R84). The next head claim is not pre-checked before the closure that the
HOLD brings ends it (R76, R89): DESIGN CHOICE (log 40), unsafe. -/
def State.claimHeld (s : State) : State :=
  match s.flyingClaim with
  | none => s
  | some c => s.endClaim c .divertClosed

/-! ## The commands -/

/-- ACCEPT_RECORD (R71). -/
def execAcceptRecord (dt : Time) (s : State) : Host.Outcome State Fault Refusal :=
  done (acceptRecordStep (s.advance dt))

/-- BACKOFF_EXPIRY (R85). -/
def execBackoffExpiry (dt : Time) (tag : Tag) (s : State) : Host.Outcome State Fault Refusal :=
  done (backoffExpiryStep (s.advance dt) tag)

/-- DEADLINE_EXPIRY (R86, R87). -/
def execDeadlineExpiry (dt : Time) (tag : Tag) (s : State) : Host.Outcome State Fault Refusal :=
  done (deadlineExpiryStep (s.advance dt) tag)

end Sys2Proof.Machine
end

