-- ==== Sys2Proof/Machine/Calib.lean ====
section
/-! DEFINITION. The calibration load: CALIBRATION_LOAD_BEGIN, CALIBRATION_RETRY, CALIBRATION_LOAD_END, CAL_MEMORY_TIMEOUT (10 R157 to
R162). -/

namespace Sys2Proof.Machine

/-- A load of a kind begins (R157). -/
def State.beginLoad (s : State) (kind : LoadKind) : State :=
  { s with control := { s.control with load := some { kind, since := s.now } } }

/-- CALIBRATION_LOAD_BEGIN (R157): the start load, or an accepted RELOAD once the claim queue is empty
too. A record that waits for acceptance is accepted first (05 R70, R71): DESIGN CHOICE (log 42), unsafe. -/
def calibrationLoadBeginStep (s : State) : State :=
  if s.control.load.isSome || !s.laneEmpty || s.control.mode == .failed then s
  else if s.control.startStep = .calibration then s.beginLoad .start
  else if s.control.reloadAsked && s.admission.claims.isEmpty && s.admission.waiting.isNone then
    ({ s with control := { s.control with reloadAsked := false } }).beginLoad .reload
  else s

/-- CALIBRATION_RETRY (R160): while ABSENT, in LEARNING or ACTIVE, 30 s after the last load's end. -/
def calibrationRetryStep (s : State) : State :=
  if s.control.calibration.isNone && (s.control.mode == .learning || s.control.mode == .active)
      && s.laneEmpty && s.control.load.isNone
      && s.control.lastLoadEnd.any fun t => reached s.now (t + span32 retryTime) then
    s.beginLoad .retry
  else s

/-- How a load ends (R159). -/
inductive LoadResult
  | valid (cal : Calibration)
  | invalid (check : Nat)
  | silent
  deriving DecidableEq, Repr

/-- The calibration that a result leaves (R159). -/
def LoadResult.calibration : LoadResult → Option Calibration
  | .valid cal => some cal
  | .invalid _ => none
  | .silent => none

/-- The code and detail of the sense record that a result would raise, none if LOADED (R159). -/
def LoadResult.record : LoadResult → Option (SenseCode × Byte)
  | .valid _ => none
  | .invalid check => some (.calInvalid, byteOf check)
  | .silent => some (.calPort, 0)

/-- Whether the memory did not answer (R159, CAL_PORT of the mask). -/
def LoadResult.isSilent : LoadResult → Bool
  | .silent => true
  | .valid _ => false
  | .invalid _ => false

/-- The sense record of a load (R159): not for a retry with the last load's code and detail. -/
def State.raiseLoad (s : State) (kind : LoadKind) (result : Option (SenseCode × Byte)) : State :=
  match result with
  | none => s
  | some (code, detail) =>
    if kind = .retry ∧ s.control.lastLoadResult = result then s else s.raise code detail none

/-- A load that ends LOADED during learning moves the learning timer's end to the later of its present
end and the learning start plus the new cap (06, R106). -/
def State.moveLearning (s : State) : State :=
  match s.control.mode, s.control.learning, s.site? with
  | .learning, some l, some site =>
    let finish := later l.finish (l.start + span32 (site.dwellCap * 100))
    { s with control := { s.control with learning := some { l with finish } } }
  | _, _, _ => s

/-- A load that ends LOADED with sign fitted YES starts the lamp check with the timers at zero
(09, R151). A fault mark set before it stands: DESIGN CHOICE (log 47), unsafe. -/
def State.zeroLampTimers (s : State) : State :=
  if s.lampCheck then
    { s with sign := { s.sign with
        divert := { s.sign.divert with timer := none }
        closed := { s.sign.closed with timer := none } } }
  else s

/-- STATUS page 0 joins the transmit queue (R161, R162). -/
def State.queueStatus (s : State) : State := s.enqueue .status .ordinary s.statusPage0

/-- The start load's end ends the start (R161). -/
def State.endStart (s : State) : State :=
  ({ s with control := { s.control with startStep := .done } }).startLearning.queueStatus

/-- A load ends (R159). -/
def State.endLoad (s : State) (kind : LoadKind) (result : LoadResult) : State :=
  let s := s.raiseLoad kind result.record
  let s := { s with control := { s.control with
    calibration := result.calibration
    mask := { s.control.mask with calPort := result.isSilent }
    load := none, lastLoadEnd := some s.now, lastLoadResult := result.record } }
  let s := s.zeroLampTimers
  let s := match kind with
    | .start => s.endStart
    | .retry => s.moveLearning
    | .reload =>
      let s := s.moveLearning
      if s.control.calibration.isSome then s.queueStatus else s
  s.dropUncoordinated

/-- The result of a record read whole (R158, R159). -/
def loadResult (record : List Byte) : LoadResult :=
  match calibrationFailure record with
  | none => .valid (calibrationOf record)
  | some check => .invalid check

/-- CALIBRATION_LOAD_END (R159): the 158 bytes have been read and checked. -/
def calibrationLoadEndStep (s : State) (record : List Byte) : State :=
  match s.control.load with
  | none => s
  | some l => if record.length = 158 then s.endLoad l.kind (loadResult record) else s

/-- CAL_MEMORY_TIMEOUT (R157, R159). -/
def calMemoryTimeoutStep (s : State) : State :=
  match s.control.load with
  | none => s
  | some l =>
    if reached s.now (l.since + span32 memorySilence) then s.endLoad l.kind .silent else s

/-! ## The commands -/

/-- CALIBRATION_LOAD_BEGIN (R157). -/
def execCalibrationLoadBegin (dt : Time) (s : State) : Host.Outcome State Fault Refusal :=
  done (calibrationLoadBeginStep (s.advance dt))

/-- CALIBRATION_RETRY (R160). -/
def execCalibrationRetry (dt : Time) (s : State) : Host.Outcome State Fault Refusal :=
  done (calibrationRetryStep (s.advance dt))

/-- CALIBRATION_LOAD_END (R159). -/
def execCalibrationLoadEnd (dt : Time) (record : List Byte) (s : State) :
    Host.Outcome State Fault Refusal :=
  done (calibrationLoadEndStep (s.advance dt) record)

/-- CAL_MEMORY_TIMEOUT (R157). -/
def execCalMemoryTimeout (dt : Time) (s : State) : Host.Outcome State Fault Refusal :=
  done (calMemoryTimeoutStep (s.advance dt))

end Sys2Proof.Machine
end

