-- ==== Sys2Proof/Machine/Closing.lean ====
section
/-! DEFINITION. Closure, the sign hold and the lamps: CLOSE_IN_EDGE, CLOSE_IN_DEBOUNCED, REOPEN_TIMER_EXPIRY, LONG_HOLD_TIMER,
HOLD_UNTIL_REACHED, LAMP_FEEDBACK_CHANGE, LAMP_DISAGREEMENT_EXPIRY (09). -/

namespace Sys2Proof.Machine

/-- CLOSE_IN_EDGE (R143): the 20 ms count afresh from a change of the raw level. -/
def closeInEdgeStep (s : State) (level : Bool) : State :=
  if s.sign.rawCloseIn = level then s
  else { s with sign := { s.sign with rawCloseIn := level, rawSince := s.now } }

/-- The HOLD demand is set (08 R138): the station drives dominant in place of the frame or response it
has on the line. -/
def LineControl.demandHold (l : LineControl) : LineControl :=
  { l.stopResponse with holdDemand := true, inFlight := l.inFlight.map InFlight.stop }

/-- The debounced level becomes asserted (R144, R145); a FAILED station demands no HOLD. -/
def State.closeInAsserted (s : State) : State :=
  let s := { s with sign := { s.sign with closeIn := true } }
  let s := if s.control.mode == .failed then s else { s with line := s.line.demandHold }
  s.enterHeld

/-- The debounced level becomes deasserted (R144, R145). -/
def State.closeInReleased (s : State) : State :=
  let s := { s with
    sign := { s.sign with closeIn := false }
    line := { s.line with holdDemand := false } }
  if s.sign.closure == .held && !s.lineHeld then s.enterReopening else s

/-- CLOSE_IN_DEBOUNCED (R143): the raw level has stood at the other level for 20 ms. -/
def closeInDebouncedStep (s : State) : State :=
  if s.sign.rawCloseIn != s.sign.closeIn && reached s.now (s.sign.rawSince + span32 debounceTime) then
    if s.sign.rawCloseIn then s.closeInAsserted else s.closeInReleased
  else s

/-- REOPEN_TIMER_EXPIRY (R145); the long-hold flag clears with it (R147). -/
def reopenTimerExpiryStep (s : State) : State :=
  if s.sign.closure == .reopening && s.expired s.sign.reopenTimer then
    { s with sign := { s.sign with closure := .opened, reopenTimer := none, longHold := false } }
  else s

/-- LONG_HOLD_TIMER (R147). -/
def longHoldTimerStep (s : State) : State :=
  if s.sign.longHoldTimer.any fun t => reached s.now (t + span32 longHoldTime) then
    { s with sign := { s.sign with longHold := true } }
  else s

/-- HOLD_UNTIL_REACHED (R149). -/
def holdUntilReachedStep (s : State) : State :=
  if s.expired s.sign.holdUntil then { s with sign := { s.sign with holdUntil := none } } else s

/-- The state of a lamp. -/
def SignControl.lamp (c : SignControl) : Lamp → LampState
  | .divert => c.divert
  | .closed => c.closed

def SignControl.setLamp (c : SignControl) (lamp : Lamp) (l : LampState) : SignControl :=
  match lamp with
  | .divert => { c with divert := l }
  | .closed => { c with closed := l }

/-- LAMP_FEEDBACK_CHANGE (R150): the timer follows when the outputs settle. -/
def lampFeedbackChangeStep (s : State) (lamp : Lamp) (current : Bool) : State :=
  { s with sign := s.sign.setLamp lamp { s.sign.lamp lamp with current } }

/-- The detail that names a lamp and the kind of its disagreement (R150). -/
def signFaultDetail : Lamp → Disagreement → Byte
  | .divert, .dark => 1
  | .divert, .lit => 2
  | .closed, .dark => 3
  | .closed, .lit => 4

/-- LAMP_DISAGREEMENT_EXPIRY (R150). -/
def lampDisagreementExpiryStep (s : State) (lamp : Lamp) : State :=
  let l := s.sign.lamp lamp
  match l.timer with
  | none => s
  | some t =>
    if reached s.now (t.start + span32 disagreementTime) && !l.mark && s.lampCheck then
      let detail := signFaultDetail lamp t.kind
      let s := { s with sign := s.sign.setLamp lamp { l with mark := true } }
      (s.raise .signFault detail none).enqueue .report .ordinary (signFaultPayload detail)
    else s

/-! ## The commands -/

/-- CLOSE_IN_EDGE (R143). -/
def execCloseInEdge (dt : Time) (level : Bool) (s : State) : Host.Outcome State Fault Refusal :=
  done (closeInEdgeStep (s.advance dt) level)

/-- CLOSE_IN_DEBOUNCED (R143). -/
def execCloseInDebounced (dt : Time) (s : State) : Host.Outcome State Fault Refusal :=
  done (closeInDebouncedStep (s.advance dt))

/-- REOPEN_TIMER_EXPIRY (R145). -/
def execReopenTimerExpiry (dt : Time) (s : State) : Host.Outcome State Fault Refusal :=
  done (reopenTimerExpiryStep (s.advance dt))

/-- LONG_HOLD_TIMER (R147). -/
def execLongHoldTimer (dt : Time) (s : State) : Host.Outcome State Fault Refusal :=
  done (longHoldTimerStep (s.advance dt))

/-- HOLD_UNTIL_REACHED (R149). -/
def execHoldUntilReached (dt : Time) (s : State) : Host.Outcome State Fault Refusal :=
  done (holdUntilReachedStep (s.advance dt))

/-- LAMP_FEEDBACK_CHANGE (R150). -/
def execLampFeedbackChange (dt : Time) (lamp : Lamp) (current : Bool) (s : State) :
    Host.Outcome State Fault Refusal :=
  done (lampFeedbackChangeStep (s.advance dt) lamp current)

/-- LAMP_DISAGREEMENT_EXPIRY (R150). -/
def execLampDisagreementExpiry (dt : Time) (lamp : Lamp) (s : State) :
    Host.Outcome State Fault Refusal :=
  done (lampDisagreementExpiryStep (s.advance dt) lamp)

end Sys2Proof.Machine
end

