-- ==== Sys2Proof/Machine/Former.lean ====
section
/-! DEFINITION. The Vehicle Assembler and the Axle Former: opening, filling, closing and splitting vehicles; row-axles, pairing and
axle records; PULSE_RECORD_TAKE (02, 03). -/

namespace Sys2Proof.Machine

/-! ## Vehicle Assembler: records of a close (03 R46 to R51) -/

/-- The test spacing of two consecutive axles (R47), or a spacing (04 R65): round half up of the onset
difference times the speed over 4 096, clamped to 65 535. -/
def spacingOf (prev next : Index) (speed : Nat) : Nat :=
  min (roundHalfUpInt (modDiff next prev * speed) 4096).toNat 65535

/-- The pieces of the open list (R47): a cut between two axles whose test spacing exceeds the maximum. -/
def piecesOf (maxSpacing speed : Nat) : List Axle → List (List Axle)
  | [] => []
  | a :: rest =>
    match piecesOf maxSpacing speed rest with
    | [] => [[a]]
    | [] :: more => [a] :: more
    | (b :: piece) :: more =>
      if maxSpacing < spacingOf a.reference b.reference speed then [a] :: (b :: piece) :: more
      else (a :: b :: piece) :: more

/-- The split speed of R47. -/
def splitSpeed (axles : List Axle) (defaultSpeed : Nat) : Nat :=
  (meanHalfUp (axles.filterMap Axle.speed)).getD defaultSpeed

/-- The first tag from `candidate` on that the table does not hold under this station's number (R50). -/
def freeTag (held : Tag → Bool) : Nat → Tag → Tag
  | 0, candidate => candidate
  | n + 1, candidate => if held candidate then freeTag held n (candidate + 1) else candidate

/-- The earliest of the stamps, compared as station times. -/
def earliest : List Time → Option Time
  | [] => none
  | t :: l => some (l.foldl (fun a b => if modDiff b a < 0 then b else a) t)

/-- How a vehicle closed (R42, R45). -/
inductive CloseCause | ordinary | cut | discontinuity
  deriving DecidableEq, Repr

/-- The record of a piece (R48, R49). -/
def recordOf (origin : StationNo) (now : Time) (v : OpenVehicle) (cause : CloseCause) (wasCut : Bool)
    (tag : Tag) (piece : List Axle) : VehicleRecord :=
  let listed := piece.take 12
  { origin, tag
    firstStamp := (listed.head?.map Axle.stamp).getD now
    firstRowB := earliest (listed.filterMap Axle.rowBStamp)
    speed := none, band := none
    axleCount := min piece.length 15
    axles := listed
    flags :=
      { gap := piece.any Axle.gap || v.carriedGap || cause == .discontinuity
        oneSided := piece.any Axle.oneSided
        singleRow := piece.any Axle.singleRow
        split := v.carriedSplit || cause == .cut || wasCut
        stalled := v.stallMark
        axleOverflow := decide (12 < piece.length)
        saturated := false, tempOut := false }
    measuredGross := 0, assessedGross := 0, verdict := none, lightMark := false
    outcome := none, deadline := none, lastObjection := none, closeTime := now }

/-- The records of the pieces in order, each with the next free tag (R50), and the tag counter after. -/
def recordsOf (held : Tag → Bool) (mk : Tag → List Axle → VehicleRecord) (counter : Tag) :
    List (List Axle) → List VehicleRecord × Tag
  | [] => ([], counter)
  | p :: ps =>
    let tag := freeTag held (spanCapacity + 1) counter
    let rest := recordsOf held mk (tag + 1) ps
    (mk tag p :: rest.1, rest.2)

/-- Records move from the outbound list into free places of the closed-vehicle queue (R51). -/
def Assembler.feed (a : Assembler) : Assembler :=
  let free := closedQueueCapacity - a.closedQueue.length
  { a with closedQueue := a.closedQueue ++ a.outbound.take free, outbound := a.outbound.drop free }

/-- The counter of vehicles closed goes up once for each record. -/
def bumpBy (c : Counter) : Nat → Counter
  | 0 => c
  | n + 1 => bumpBy (bump c) n

/-- A close (R46). -/
def State.closeVehicle (s : State) (cause : CloseCause) : State :=
  match s.assembler.vehicle with
  | none => s
  | some v =>
    let s := { s with former := { s.former with lastDn := none }
                      assembler := { s.assembler with vehicle := none } }
    if v.axles.isEmpty then s
    else
      let pieces := piecesOf s.maxAxleSpacing (splitSpeed v.axles s.defaultSpeed) v.axles
      let own := s.control.straps.number
      let made := recordsOf (s.span.holds own)
        (recordOf own s.now v cause (decide (1 < pieces.length))) s.assembler.tagCounter pieces
      { s with
        assembler := ({ s.assembler with outbound := s.assembler.outbound ++ made.1,
                                         tagCounter := made.2 } : Assembler).feed
        counters := { s.counters with
          vehiclesClosed := bumpBy s.counters.vehiclesClosed made.1.length } }

/-! ## Vehicle Assembler: opening, joining and the close tests (03 R40 to R44) -/

/-- A vehicle opens (R40). -/
def State.openVehicle (s : State) (opening : Index) (gap split : Bool) : State :=
  let v : OpenVehicle :=
    { axles := [], opening, presenceSeen := s.assembler.presence, stallMark := false,
      carriedGap := gap, carriedSplit := split, lastJoin := none }
  { s with assembler := { s.assembler with vehicle := some v } }

/-- The place an axle's reference onset gives, after equal ones (R41). -/
def insertAxle (x : Axle) : List Axle → List Axle
  | [] => [x]
  | a :: l => if 0 ≤ modDiff x.reference a.reference then a :: insertAxle x l else x :: a :: l

/-- The axle joins the open vehicle, if there is one (R41). -/
def State.joinOpen (s : State) (x : Axle) (at_ : Index) : State :=
  match s.assembler.vehicle with
  | none => s
  | some v =>
    let v := { v with axles := insertAxle x v.axles, lastJoin := some at_ }
    { s with assembler := { s.assembler with vehicle := some v } }

/-- An axle record is handed to the Assembler (R40, R41, R42). -/
def State.takeAxle (s : State) (x : Axle) : State :=
  let here := (s.assembler.current.map CurrentSample.index).getD x.reference
  match s.assembler.vehicle with
  | none => (s.openVehicle here false false).joinOpen x here
  | some v =>
    if v.axles.length < openListCapacity then s.joinOpen x here
    else ((s.closeVehicle .cut).openVehicle here false true).joinOpen x here

/-- The quiet start of R43. -/
def Assembler.quietStart (a : Assembler) (v : OpenVehicle) : Index :=
  if v.presenceSeen then
    match a.runStart with
    | none => v.opening
    | some r => later r v.opening
  else v.lastJoin.getD v.opening

/-- The quiet test (R43). -/
def State.quietPasses (s : State) (v : OpenVehicle) : Bool :=
  match s.assembler.current with
  | none => false
  | some c =>
    !s.assembler.presence && reached c.index (s.assembler.quietStart v + span32 quietSamples)
      && s.former.isEmpty

/-- The closes that are due: the quiet test, or a stall mark with the former empty (R43, R44). -/
def State.closeIfDue (s : State) : State :=
  match s.assembler.vehicle with
  | none => s
  | some v => if s.quietPasses v || (v.stallMark && s.former.isEmpty) then s.closeVehicle .ordinary else s

/-- The stall test passes at the current sample (R44). -/
def State.stallPasses (s : State) (v : OpenVehicle) : Bool :=
  match s.assembler.current, s.assembler.runStart with
  | some c, some r => s.assembler.presence && reached c.index (later r v.opening + span32 s.stuckSamples)
  | _, _ => false

/-- The tests of one sample on the open vehicle: the quiet test, then the stall test (R39, R43, R44). -/
def State.sampleTests (s : State) : State :=
  match s.assembler.vehicle with
  | none => s
  | some v =>
    if s.quietPasses v then s.closeVehicle .ordinary
    else if v.stallMark || s.stallPasses v then
      ({ s with assembler := { s.assembler with vehicle := some { v with stallMark := true } } }).closeIfDue
    else s

/-- A sample is handed to the Assembler (R39, R40). -/
def State.takeSample (s : State) (index : Index) (stamp : Time) (presence : Bool) : State :=
  let a := s.assembler
  let changed := a.current.isNone || a.presence != presence
  let rise := presence && !a.presence
  let seen := fun (v : OpenVehicle) => { v with presenceSeen := v.presenceSeen || presence }
  let a' : Assembler :=
    { a with
      current := some { index, stamp }, presence, afterBreak := false
      runStart := if changed then some index else a.runStart
      vehicle := a.vehicle.map seen }
  let s := { s with assembler := a' }
  let s := if rise && a.vehicle.isNone then s.openVehicle index a.afterBreak false else s
  s.sampleTests

/-- A discontinuity reaches the Assembler (R39, R45). -/
def State.breakAssembler (s : State) : State :=
  let s := s.closeVehicle .discontinuity
  { s with assembler := { s.assembler with
      current := none, runStart := none, presence := false, afterBreak := true } }

/-! ## Axle Former: axle records (02 R28 to R34) -/

/-- A change of the Axle Former with its empty report: when the report becomes true, the Assembler
makes its close tests (R34; 03 R43, R44). -/
def State.withReport (before after_ : State) : State :=
  if !before.former.isEmpty && after_.former.isEmpty then after_.closeIfDue else after_

/-- ONE_SIDED of R33. -/
def oneSidedOf (sides : List (Option Nat × Option Nat)) : Bool :=
  sides.all (fun p => p.1.isNone) || sides.all (fun p => p.2.isNone)

/-- The paired axle of a row-A and a row-B row-axle (R28, R29, R32, R33). -/
def pairedAxle (rowSpacing : Nat) (a b : RowAxle) (dn : Nat) : Axle :=
  { reference := a.first, stamp := a.stamp, temperature := a.temperature, rowBStamp := some b.stamp
    speed := some (roundHalfUp (rowSpacing * 4096) dn)
    al := a.left, ar := a.right, bl := b.left, br := b.right
    singleRow := false, oneSided := oneSidedOf [(a.left, a.right), (b.left, b.right)]
    gap := a.gap || b.gap, load := none, spacing := none }

/-- The single-row axle of a row-A row-axle (R31). -/
def singleA (a : RowAxle) : Axle :=
  { reference := a.first, stamp := a.stamp, temperature := a.temperature, rowBStamp := none
    speed := none, al := a.left, ar := a.right, bl := none, br := none
    singleRow := true, oneSided := oneSidedOf [(a.left, a.right)], gap := a.gap
    load := none, spacing := none }

/-- The single-row axle of a row-B row-axle: its reference onset is taken back by the last paired Δn,
or by Δn_min (R31). -/
def singleB (b : RowAxle) (back : Nat) : Axle :=
  { reference := b.first - span32 back, stamp := b.stamp, temperature := b.temperature
    rowBStamp := some b.stamp, speed := none, al := none, ar := none, bl := b.left, br := b.right
    singleRow := true, oneSided := oneSidedOf [(b.left, b.right)], gap := b.gap
    load := none, spacing := none }

/-- Whether a pending entry is a partner for a row-B first onset (R28). -/
def isPartner (dnMin dnMax : Nat) (b : Index) (a : RowAxle) : Bool :=
  decide ((dnMin : Int) ≤ modDiff b a.first) && decide (modDiff b a.first ≤ dnMax)

/-- A row-B row-axle is paired or issued alone (R28). The axle joins before the last paired Δn is set,
and the empty report comes last (log 13). -/
def State.pairRowB (s : State) (b : RowAxle) : State :=
  match s.former.pendingA.find? (isPartner s.dnMin s.dnMax b.first) with
  | some a =>
    let dn := (modDiff b.first a.first).toNat
    let s := { s with former := { s.former with pendingA := s.former.pendingA.erase a } }
    let s := s.takeAxle (pairedAxle s.rowSpacing a b dn)
    { s with former := { s.former with lastDn := some dn } }
  | none => s.takeAxle (singleB b (s.former.lastDn.getD s.dnMin))

/-- The place a first onset gives in a list ordered oldest first (R26, R27). R21 says that no two entries
share a first onset, but R24 lets two of one row come to share one: the later to join then stands after the
other, DESIGN CHOICE (log 43), unsafe. -/
def insertRowAxle (x : RowAxle) : List RowAxle → List RowAxle
  | [] => [x]
  | a :: l => if 0 ≤ modDiff x.first a.first then a :: insertRowAxle x l else x :: a :: l

/-- A completed row-A row-axle joins the pending list; of 17 the oldest is issued (R26). -/
def State.pendRowA (s : State) (x : RowAxle) : State :=
  match insertRowAxle x s.former.pendingA with
  | [] => s
  | oldest :: rest =>
    if pendingCapacity < (oldest :: rest).length then
      ({ s with former := { s.former with pendingA := rest } }).takeAxle (singleA oldest)
    else { s with former := { s.former with pendingA := oldest :: rest } }

/-- A completed row-B row-axle joins the waiting list; where it holds 4 the oldest is paired first
(R27). -/
def State.awaitRowB (s : State) (x : RowAxle) : State :=
  let s := match s.former.waitingB with
    | [] => s
    | oldest :: rest =>
      if waitingCapacity ≤ (oldest :: rest).length then
        ({ s with former := { s.former with waitingB := rest } }).pairRowB oldest
      else s
  { s with former := { s.former with waitingB := insertRowAxle x s.former.waitingB } }

/-- The open row-axle of a row. -/
def AxleFormer.openOf (f : AxleFormer) : Row → Option RowAxle
  | .a => f.openA
  | .b => f.openB

def AxleFormer.setOpen (f : AxleFormer) (row : Row) (x : Option RowAxle) : AxleFormer :=
  match row with
  | .a => { f with openA := x }
  | .b => { f with openB := x }

/-- A row-axle completes (R25). -/
def State.completeRowAxle (s : State) (row : Row) (x : RowAxle) : State :=
  let s := { s with former := s.former.setOpen row none }
  match row with
  | .a => s.pendRowA x
  | .b => s.awaitRowB x

/-! ## Axle Former: handling the horizon (02 R23, R35) -/

/-- The open row-axle of a row completes if its window has passed (R23 step 1, R25). -/
def State.completeIfPassed (s : State) (row : Row) (h : Index) : State :=
  match s.former.openOf row with
  | none => s
  | some x =>
    if !s.held && reached h (x.first + span32 s.window) then s.withReport (s.completeRowAxle row x) else s

/-- A waiting row-B row-axle is due (R27): the horizon has reached b − Δn_min + W_c. -/
def State.rowBDue (s : State) (h : Index) (b : RowAxle) : Bool :=
  reached h (b.first - span32 s.dnMin + span32 s.window)

/-- Due entries are paired, oldest first (R23 step 2); a hold that begins meanwhile stops it (log 12). -/
def State.pairDue (s : State) (h : Index) : Nat → State
  | 0 => s
  | n + 1 =>
    if s.held then s
    else match s.former.waitingB.find? (s.rowBDue h) with
      | none => s
      | some b =>
        let t := { s with former := { s.former with waitingB := s.former.waitingB.erase b } }
        (s.withReport (t.pairRowB b)).pairDue h n

/-- A pending row-A entry has expired (R30). -/
def State.rowAExpired (s : State) (h : Index) (a : RowAxle) : Bool :=
  reached h (a.first + span32 s.dnMax + span32 s.window)

/-- Expired entries are issued alone, oldest first (R23 step 3). -/
def State.expirePending (s : State) (h : Index) : Nat → State
  | 0 => s
  | n + 1 =>
    if s.held then s
    else match s.former.pendingA.find? (s.rowAExpired h) with
      | none => s
      | some a =>
        let t := { s with former := { s.former with pendingA := s.former.pendingA.erase a } }
        (s.withReport (t.takeAxle (singleA a))).expirePending h n

/-- Handling the horizon (R23): completions, pairings, expiries, under one horizon. -/
def State.handleHorizon (s : State) : State :=
  if s.held then s
  else match s.horizon with
    | none => s
    | some h =>
      let s := (s.completeIfPassed .a h).completeIfPassed .b h
      let s := s.pairDue h s.former.waitingB.length
      s.expirePending h s.former.pendingA.length

/-! ## Axle Former: taking a pulse record (02 R22, R24) -/

def Channel.row : Channel → Row
  | .al | .ar => .a
  | .bl | .br => .b

def Channel.isLeft : Channel → Bool
  | .al | .bl => true
  | .ar | .br => false

/-- A new row-axle from a record (R24). -/
def RowAxle.fresh (r : PulseRecord) : RowAxle :=
  { row := r.channel.row, first := r.onset, stamp := r.stamp, temperature := r.temperature
    left := if r.channel.isLeft then some r.area else none
    right := if r.channel.isLeft then none else some r.area
    gap := r.gap }

/-- An area added to a side: the side's first, or merged with what it holds (R24). -/
def addArea (side : Option Nat) (area : Nat) : Option Nat := some (side.getD 0 + area)

/-- A record joins or merges into a row-axle (R24). -/
def RowAxle.absorb (x : RowAxle) (r : PulseRecord) : RowAxle :=
  let sided : RowAxle :=
    if r.channel.isLeft then { x with left := addArea x.left r.area }
    else { x with right := addArea x.right r.area }
  let sided := { sided with gap := x.gap || r.gap }
  if modDiff r.onset x.first < 0 then
    { sided with first := r.onset, stamp := r.stamp, temperature := r.temperature }
  else sided

/-- The side of the record is absent in the row-axle. -/
def RowAxle.sideAbsent (x : RowAxle) (c : Channel) : Bool :=
  if c.isLeft then x.left.isNone else x.right.isNone

/-- A record is handled (R24, R25). -/
def State.handleRecord (s : State) (r : PulseRecord) : State :=
  let row := r.channel.row
  match s.former.openOf row with
  | none => { s with former := s.former.setOpen row (some (RowAxle.fresh r)) }
  | some x =>
    if (modDiff r.onset x.first).natAbs ≤ s.window then
      let y := x.absorb r
      if x.sideAbsent r.channel && y.left.isSome && y.right.isSome then s.completeRowAxle row y
      else { s with former := s.former.setOpen row (some y) }
    else
      let s := s.completeRowAxle row x
      { s with former := s.former.setOpen row (some (RowAxle.fresh r)) }

/-- PULSE_RECORD_TAKE (R22): the record at the head of the queue, then the horizon. -/
def pulseRecordTakeStep (s : State) : State :=
  if s.held then s
  else match s.detector.queue with
    | [] => s
    | q :: rest =>
      let t := { s with detector := { s.detector with queue := rest } }
      (t.withReport (t.handleRecord q.record)).handleHorizon

/-- PULSE_RECORD_TAKE (R22 to R35). -/
def execPulseRecordTake (dt : Time) (s : State) : Host.Outcome State Fault Refusal :=
  done (pulseRecordTakeStep (s.advance dt))

end Sys2Proof.Machine
end

