-- ==== Sys2Proof/Machine/Maint.lean ====
section
/-! DEFINITION. The Command Handler: reply decisions (11 R164) and the execution of STATUS_PAGE, SENSE, RELOAD, READ_VEHICLE,
CLEAR_COUNTERS (11 R165, R170). RESTART's execution is in Start.lean. -/

namespace Sys2Proof.Machine

/-! ## Reply decisions (R164) -/

/-- A COMMAND whose code and argument are in range (11.1). -/
inductive Request
  | statusPage (page : Nat)
  | sense
  | reload
  | restart
  | readVehicle (tag : Tag)
  | clearCounters
  deriving DecidableEq, Repr

/-- The request that a COMMAND's payload makes; none for a code outside 1 to 6, an argument out of
range, or a nonzero unused argument bit (R164, first row). -/
def requestOf (payload : List Byte) : Option Request :=
  let argument := fieldAt payload 1 2
  match (byteAt payload 0).toNat, argument with
  | 1, a => if a ≤ 4 then some (.statusPage a) else none
  | 2, 0 => some .sense
  | 3, 0 => some .reload
  | 4, 0 => some .restart
  | 5, a => if a ≤ 4095 then some (.readVehicle (BitVec.ofNat 12 a)) else none
  | 6, 0 => some .clearCounters
  | _, _ => none

/-- STATUS_PAGE and SENSE, which R164's second and third rows let through. -/
def Request.alwaysServed : Request → Bool
  | .statusPage _ | .sense => true
  | .reload | .restart | .readVehicle _ | .clearCounters => false

/-- The reply codes (08, R134). -/
inductive ReplyCode | ack | busy | check | reject
  deriving DecidableEq, Repr

def ReplyCode.code : ReplyCode → Nat
  | .ack => 1 | .busy => 2 | .check => 3 | .reject => 4

/-- The ring record with a tag (03, R52). -/
def State.recorded (s : State) (tag : Tag) : Option VehicleRecord :=
  s.assembler.history.find? fun r => r.tag == tag

/-- Rows 4 to 8 of R164: what a request with no earlier ground against it is answered. -/
def State.serve (s : State) : Request → ReplyCode × Option Maintenance
  | .statusPage p => if s.hasRoom .status then (.ack, some (.statusPage p)) else (.busy, none)
  | .sense => if s.hasRoom .sense then (.ack, some .sense) else (.busy, none)
  | .reload =>
    if !s.laneEmpty || !s.admission.claims.isEmpty || s.control.load.isSome then (.busy, none)
    else (.ack, some .reload)
  | .restart => (.ack, some .restart)
  | .readVehicle tag =>
    if s.handler.replay.isSome then (.busy, none)
    else match s.recorded tag with
      | none => (.reject, none)
      | some r => if s.hasRoom .verdict then (.ack, some (.readVehicle r)) else (.busy, none)
  | .clearCounters => (.ack, some .clearCounters)

/-- The reply of R164, and the command that an ACK lets run. -/
def State.decideReply (s : State) (request : Option Request) : ReplyCode × Option Maintenance :=
  match request with
  | none => (.reject, none)
  | some q =>
    if s.control.mode == .starting && !q.alwaysServed then (.busy, none)
    else if s.control.sense.isSome && !q.alwaysServed then (.check, none)
    else s.serve q

/-- The bytes of a reply: the reply byte and its CRC (08, R134). -/
def replyBytes (code : ReplyCode) (number : StationNo) : List Byte :=
  let b := byteOf (16 * code.code + number.toNat)
  [b, crc8 [b]]

/-- A reply is prepared and driven in the window (08 R132). -/
def State.driveReply (s : State) (r : ReplyCode × Option Maintenance) : State :=
  let drive : ResponseDrive :=
    { bytes := replyBytes r.1 s.control.straps.number, isReply := true, stopped := false }
  { s with
    handler := { s.handler with prepared := some { command := r.2, silent := false } }
    line := { s.line with response := some drive } }

/-- What the Command Handler does at the EOD of a COMMAND for this station (R164, with the three
conditions that replace its table). -/
def State.commandAtEod (s : State) (payload : List Byte) : State :=
  let request := requestOf payload
  match s.line.state with
  | .isolated | .listenOnly =>
    if request = some .restart then
      { s with handler := { s.handler with prepared := some { command := some .restart, silent := true } } }
    else s
  | .normal =>
    if s.line.holdDemand then s
    else if s.control.mode == .failed then
      if request = some .restart then s.driveReply (.ack, some .restart) else s
    else s.driveReply (s.decideReply request)

/-- What the Command Handler does with the reply's outcome at the frame's EOF (R165): a completed
ACK's command is due, and so is a RESTART that needs no reply. -/
def State.commandAtEof (s : State) (prepared : Option Prepared) (response : Option ResponseDrive) : State :=
  match prepared with
  | none => s
  | some p =>
    let completed := match response with
      | some r => r.isReply && !r.stopped
      | none => false
    match p.command with
    | none => s
    | some c =>
      if p.silent || completed then { s with handler := { s.handler with due := some c } } else s

/-! ## Execution (R165, R170) -/

/-- The command that was due has been taken up. -/
def State.clearDue (s : State) : State := { s with handler := { s.handler with due := none } }

/-- STATUS_PAGE (R165, R167). -/
def statusPageStep (s : State) : State :=
  match s.handler.due with
  | some (.statusPage page) => s.clearDue.enqueue .status .ordinary (s.statusPayload page)
  | _ => s

/-- SENSE (R165, R166). -/
def senseStep (s : State) : State :=
  match s.handler.due with
  | some .sense =>
    let t := s.clearDue.enqueue .sense .ordinary s.sensePayload
    { t with control := { t.control with sense := none } }
  | _ => s

/-- RELOAD (R165): the load itself begins by 10 R157, in CALIBRATION_LOAD_BEGIN. -/
def reloadStep (s : State) : State :=
  match s.handler.due with
  | some .reload => { s.clearDue with control := { s.control with reloadAsked := true } }
  | _ => s

/-- The REPORT AXLES frames of one kind of value: `parts` frames of three values each, the first with
part number `base` (R170). -/
def axlesFrames (tag : Tag) (base : Nat) (values : List Nat) (parts : Nat) : List ReplayFrame :=
  (List.range parts).map fun p =>
    { kind := .report
      payload := axlesPayload tag (base + p) (values.getD (3 * p) 0) (values.getD (3 * p + 1) 0)
        (values.getD (3 * p + 2) 0) }

/-- The frames of a replay that follow its VERDICT, in their order (R170). -/
def replayReports (r : VehicleRecord) : List ReplayFrame :=
  let parts := ceilDiv r.axles.length 3
  axlesFrames r.tag 0 (r.axles.map fun x => x.load.getD 0) parts
    ++ axlesFrames r.tag 4 (r.axles.map fun x => x.spacing.getD 0) parts

/-- READ_VEHICLE (R165, R170): the VERDICT, the first frame of the replay, is queued. -/
def readVehicleStep (s : State) : State :=
  match s.handler.due with
  | some (.readVehicle r) =>
    ({ s with handler := { s.handler with due := none, replay := some (replayReports r) } }).enqueue
      .verdict .replay (verdictPayload r)
  | _ => s

/-- CLEAR_COUNTERS (R165). -/
def clearCountersStep (s : State) : State :=
  match s.handler.due with
  | some .clearCounters =>
    { s.clearDue with
      counters := .zero
      span := { s.span with duplicates := 0, lost := 0 }
      control := { s.control with lostSense := 0 } }
  | _ => s

/-! ## The commands -/

/-- STATUS_PAGE (R165). -/
def execStatusPage (dt : Time) (s : State) : Host.Outcome State Fault Refusal :=
  done (statusPageStep (s.advance dt))

/-- SENSE (R165). -/
def execSense (dt : Time) (s : State) : Host.Outcome State Fault Refusal :=
  done (senseStep (s.advance dt))

/-- RELOAD (R165). -/
def execReload (dt : Time) (s : State) : Host.Outcome State Fault Refusal :=
  done (reloadStep (s.advance dt))

/-- READ_VEHICLE (R170). -/
def execReadVehicle (dt : Time) (s : State) : Host.Outcome State Fault Refusal :=
  done (readVehicleStep (s.advance dt))

/-- CLEAR_COUNTERS (R165). -/
def execClearCounters (dt : Time) (s : State) : Host.Outcome State Fault Refusal :=
  done (clearCountersStep (s.advance dt))

end Sys2Proof.Machine
end

