-- ==== Sys2Proof/Machine/SpanOps.lean ====
section
/-! DEFINITION. Departures, expiries and learning at the Span Table: ENTRY_EXPIRY, LEARNING_TIMER_EXPIRY (06 R101 to R107). -/

namespace Sys2Proof.Machine

/-- The entry with a key. -/
def SpanTable.find (t : SpanTable) (origin : StationNo) (tag : Tag) : Option SpanEntry :=
  t.entries.find? (·.hasKey origin tag)

/-- An entry leaves the view, and the Admission Unit is told (R93, R101, R102). -/
def State.removeEntry (s : State) (e : SpanEntry) : State :=
  ({ s with span := s.span.remove e }).preCheck

/-- A DEPART is applied (R101, R104); a FAILED station applies none (R109). -/
def State.applyDepart (s : State) (origin : StationNo) (tag : Tag) : State :=
  if s.control.mode == .failed then s
  else match s.span.find origin tag with
    | some e => s.removeEntry e
    | none => { s with counters := { s.counters with
        unknownDepartures := bump s.counters.unknownDepartures } }

/-- ENTRY_EXPIRY (R102, R103): the entry's timer has run out. -/
def entryExpiryStep (s : State) (origin : StationNo) (tag : Tag) : State :=
  if s.control.mode == .failed then s
  else match s.span.find origin tag with
    | none => s
    | some e =>
      if reached s.now e.expiry then
        let s := s.removeEntry e
        if e.origin = s.control.straps.number then s.enqueue .report .ordinary (overduePayload e) else s
      else s

/-- LEARNING_TIMER_EXPIRY (R106). -/
def learningTimerExpiryStep (s : State) : State :=
  match s.control.mode, s.control.learning with
  | .learning, some l =>
    if reached s.now l.finish then
      { s with control := { s.control with mode := .active, learning := none } }
    else s
  | _, _ => s

/-- ENTRY_EXPIRY (R102). -/
def execEntryExpiry (dt : Time) (origin : StationNo) (tag : Tag) (s : State) :
    Host.Outcome State Fault Refusal :=
  done (entryExpiryStep (s.advance dt) origin tag)

/-- LEARNING_TIMER_EXPIRY (R106). -/
def execLearningTimerExpiry (dt : Time) (s : State) : Host.Outcome State Fault Refusal :=
  done (learningTimerExpiryStep (s.advance dt))

end Sys2Proof.Machine
end

