-- ==== Sys2Proof/Machine/LineOps.lean ====
section
/-! DEFINITION. The Line Controller: LINE_IDLE, SOS_RECEIVED, RECEIVE_FRAMING_ERROR, FRAME_START, NO_ECHO_FAULT, ARBITRATION_LOSS,
BIT_ERROR, END_OF_DATA, RESPONSE_SEEN, END_OF_FRAME, HOLD_TAKEN, LINE_RECESSIVE_NOTICE, ISOLATION_TIMER_EXPIRY (08). -/

namespace Sys2Proof.Machine

def State.bitTime (s : State) : Nat := Machine.bitTime s.control.straps.rate

/-- A reception error is counted in its class (R125). -/
def State.countRxError (s : State) (e : RxError) : State :=
  match e with
  | .framing => { s with counters := { s.counters with framingErrors := bump s.counters.framingErrors } }
  | .format => { s with counters := { s.counters with formatErrors := bump s.counters.formatErrors } }
  | .crc => { s with counters := { s.counters with crcErrors := bump s.counters.crcErrors } }

/-- A framing error in a response (R132): counted unless the frame already has a first error. -/
def State.noteResponseError (s : State) (broken : Bool) : State :=
  if broken && s.line.rx.firstError.isNone then
    ({ s with line := { s.line with rx := { s.line.rx with firstError := some .framing } } }).countRxError
      .framing
  else s

/-! ## Ends of an attempt (R128 to R130, R139) -/

/-- The frame in flight is no longer on the line; the receiver reads on as a receiver. -/
def State.groundFrame (s : State) : State :=
  { s with line := { s.line with inFlight := none, rx := { s.line.rx with own := false } } }

/-- The isolation frame's one attempt has failed (R139): it is discarded and the timer starts again. -/
def State.isolationFailed (s : State) : State :=
  { s with line := { s.line with isolationFrame := none
                                 isolationTimer := some (s.after isolationTime) } }

/-- What follows for the frame whose attempt ended by loss, error or fault (05 R83, R88, R90; R139). -/
def State.attemptEnded (s : State) (f : TxFrame) : State :=
  match f.use with
  | .isolation => s.isolationFailed
  | .ordinary | .replay | .failedStatus =>
    if f.kind = .claim then s.claimAttemptEnded.dropUncoordinated else s

/-- The attempt of the frame in flight, if there is one, ends. -/
def State.endAttempt (s : State) : State :=
  match s.line.inFlight with
  | none => s
  | some x => s.groundFrame.attemptEnded x.frame

/-- A frame that the HOLD demand had stopped and that met no HOLD ends its attempt: DESIGN CHOICE
(log 39), unsafe. -/
def State.endStopped (s : State) : State :=
  if s.line.inFlight.any InFlight.stopped then s.endAttempt else s

/-- A frame or response of this station is on the line and the HOLD demand has taken its place (R138):
the dominant level it drives lets the line show no recessive time until its HOLD is taken. -/
def LineControl.holdsOwn (l : LineControl) : Bool :=
  l.holdDemand && (l.inFlight.isSome || l.response.isSome)

/-! ## Receiver phases (R123) -/

/-- LINE_IDLE (R123, R128): 4 t_b of recessive. An attempt whose frame the receiver lost on the way
ends here (log 17). -/
def lineIdleStep (s : State) : State :=
  if s.line.holdsOwn then s
  else match s.line.phase with
    | .seeking => ({ s with line := { s.line with phase := .idle, echoWait := false } }).endAttempt
    | .idle => ({ s with line := { s.line with echoWait := false } }).endStopped
    | .frame | .discard | .window | .response | .hold => s

/-- The frame in flight starts here: its SOS is on the line, and its sender has not stopped. -/
def InFlight.starting (x : InFlight) : Bool := x.phase == .start && !x.stopped

/-- The sender has driven SOS and goes on with byte 0 (R120, R129), whatever its receiver read. -/
def InFlight.passSos (x : InFlight) : InFlight := if x.starting then { x with phase := .byte0 } else x

/-- The sender has driven byte 0 and goes on with the data (R120, R130). -/
def InFlight.passByte0 (x : InFlight) : InFlight :=
  if x.phase == .byte0 && !x.stopped then { x with phase := .data } else x

/-- SOS_RECEIVED (R123): FRAME, with the assembly emptied; this station's own start is marked (R127). -/
def sosReceivedStep (s : State) (us : Nat) : State :=
  if s.line.phase == .idle && classify s.bitTime us == .sos then
    { s with line := { s.line with
        phase := .frame, rx := { RxAssembly.empty with own := s.line.inFlight.any InFlight.starting }
        inFlight := s.line.inFlight.map InFlight.passSos } }
  else s

/-- A framing error in IDLE (R123): counted, and the receiver seeks. A sender whose own SOS was misread
drives on, so arbitration and bit errors still end its attempt (R129, R130). -/
def State.idleError (s : State) : State :=
  ({ s with line := { s.line with
      phase := .seeking, inFlight := s.line.inFlight.map InFlight.passSos } }).countRxError .framing

/-- A framing error in a frame (R123): noted as its first, and the rest is discarded. Whole bytes read
of an own frame show that its byte 0 is over. -/
def State.frameErrorMet (s : State) (bytes : List Byte) : State :=
  { s with line := { s.line with
      phase := .discard
      rx := { s.line.rx with bytes, firstError := some (s.line.rx.firstError.getD .framing) }
      inFlight := if s.line.rx.own && !bytes.isEmpty then s.line.inFlight.map InFlight.passByte0
        else s.line.inFlight } }

/-- A framing error in a response (R132): counted at once, unless the frame already has a first error, and
the response is read no further. -/
def State.responseErrorMet (s : State) : State :=
  let s := s.noteResponseError true
  { s with line := { s.line with rx := { s.line.rx with opening := some .misshapen } } }

/-- RECEIVE_FRAMING_ERROR (R123, R132). -/
def receiveFramingErrorStep (s : State) (cause : FramingCause) (bytes : List Byte) : State :=
  let sane := framingCauseSane cause bytes
  match s.line.phase with
  | .idle => if idleFramingError s.bitTime cause then s.idleError else s
  | .frame => if frameFramingError s.bitTime bytes cause && sane then s.frameErrorMet bytes else s
  | .response =>
    if sane && s.line.rx.opening.any fun o => responseFramingError s.bitTime o bytes cause then
      s.responseErrorMet
    else s
  | .seeking | .discard | .window | .hold => s

/-! ## Starting a frame (R127, R128; 05 R80) -/

/-- The frame the station is ready to offer (R127): the first of the queue on a NORMAL line, the STATUS
of R155 while FAILED, the isolation frame while ISOLATED. -/
def State.offered (s : State) : Option TxFrame :=
  if s.line.holdDemand || s.line.inFlight.isSome || s.line.response.isSome || s.line.echoWait then none
  else match s.line.state with
    | .normal =>
      if s.control.mode == .failed then s.line.txq.find? fun f => f.use == .failedStatus
      else s.line.txq.head?
    | .isolated => if s.control.mode == .failed then none else s.line.isolationFrame
    | .listenOnly => none

/-- The station drives SOS for a frame, or joins one (R127). -/
def State.drive (s : State) (f : TxFrame) (join : Bool) : State :=
  let x : InFlight := { frame := f, phase := .start, joined := join, stopped := false }
  { s with line := { s.line with inFlight := some x } }

/-- The recheck of the offered claim passes (05 R80). -/
def State.recheckPasses (s : State) : Bool :=
  (s.admission.claims.find? fun c => c.state == .offeredQueued).any s.offerable

/-- A CLAIM that passed the recheck starts (05 R80). -/
def State.startClaim (s : State) (f : TxFrame) (join : Bool) : State :=
  ({ s with counters := { s.counters with claimsOffered := bump s.counters.claimsOffered } }.updateClaims
    Claim.takeOff).drive f join

/-- A CLAIM that failed the recheck (05 R80): its frame is removed and its claim is WAITING. -/
def State.failRecheck (s : State) : State :=
  (s.updateClaims Claim.callBack).removeClaimFrame.preCheck

/-- FRAME_START (R127): a failed recheck offers the next frame at the same moment. -/
def frameStartStep (s : State) (join : Bool) : State :=
  if s.line.phase != .idle then s
  else match s.offered with
    | none => s
    | some f =>
      if f.kind = .claim then
        if s.recheckPasses then s.startClaim f join
        else
          let s := s.failRecheck
          match s.offered with
          | none => s
          | some g => if g.kind = .claim then s else s.drive g join
      else s.drive f join

/-- NO_ECHO_FAULT (R128): only a station that drives SOS without joining can miss its echo. The attempt
ends before the third fault isolates the line (R139): DESIGN CHOICE (log 41), unsafe. -/
def noEchoFaultStep (s : State) : State :=
  match s.line.inFlight with
  | none => s
  | some x =>
    if !x.starting || x.joined then s
    else
      let run := min (s.line.noEchoRun + 1) 3
      let s := ({ s with
        counters := { s.counters with noEchoFaults := bump s.counters.noEchoFaults }
        line := { s.line with noEchoRun := run, echoWait := true } }).endAttempt
      if run = 3 && s.line.state == .normal then
        let s := if x.frame.use = .failedStatus then s.removeFrame x.frame else s
        s.isolate
      else s

/-! ## Arbitration and bit errors (R129, R130, R133) -/

/-- The sender of a frame drives the cell now, as far as the phases tell: a cell of byte 0 while no later
byte has been seen, and a later cell until the window (R120, log 5). -/
def InFlight.drives (x : InFlight) (cell : Nat) : Bool :=
  !x.stopped && match x.phase with
    | .byte0 => true
    | .data => decide (8 ≤ cell)
    | .start | .window => false

/-- ARBITRATION_LOSS in the cell: of byte 0 of the frame in flight (R129), or of this station's
objection byte (R133). Only a cell that drives data 1 can be lost. -/
def arbitrationLossStep (s : State) (cell : Nat) : State :=
  match s.line.inFlight, s.line.response with
  | some x, _ =>
    if x.drives cell && decide (cell < 8) && cellOf x.frame.bytes cell == some true then
      ({ s with counters := { s.counters with
        arbitrationLosses := bump s.counters.arbitrationLosses } }).endAttempt
    else s
  | none, some r =>
    if !r.isReply && !r.stopped && cell < 8 && cellOf r.bytes cell = some true then
      { s with line := s.line.stopResponse }
    else s
  | none, none => s

/-- One more bit error. -/
def State.countBitError (s : State) : State :=
  { s with counters := { s.counters with bitErrors := bump s.counters.bitErrors } }

/-- A cell in which a sender can have a bit error: in the first byte only one that drives data 0,
later any (R130). -/
def bitErrorCell (bytes : List Byte) (cell : Nat) : Bool :=
  match cellOf bytes cell with
  | none => false
  | some driven => !driven || decide (8 ≤ cell)

/-- BIT_ERROR in the cell: of the frame in flight (R130), of this station's objection byte (R133), or
of its reply (R134). Every cell of the reply is watched, so that a data 1 of the reply byte that sees the line
dominant is a bit error too: DESIGN CHOICE (log 46), unsafe. -/
def bitErrorStep (s : State) (cell : Nat) : State :=
  match s.line.inFlight, s.line.response with
  | some x, _ =>
    if x.drives cell && bitErrorCell x.frame.bytes cell then s.countBitError.endAttempt else s
  | none, some r =>
    if !r.stopped && (bitErrorCell r.bytes cell || r.isReply && (cellOf r.bytes cell).isSome) then
      ({ s with line := s.line.stopResponse }).countBitError
    else s
  | none, none => s

/-! ## End of data (R125, R132; 06 R95 to R99) -/

/-- The reason to object to a CLAIM at its end of data (06 R95, R97, R98), none for silence. -/
def State.judgeClaim (s : State) (bytes : List Byte) (good : Bool) : Option Reason :=
  if !s.coordinated then none
  else if !good then some .cannotVouch
  else
    let source := frameSource bytes
    let p := claimPayloadOf (framePayload bytes)
    if source = s.control.straps.number then some .cannotVouch
    else if p.dwell = 0 ∨ s.dwellCap < p.dwell then some .cannotVouch
    else if s.span.holds source p.tag then none
    else match s.site? with
      | none => none
      | some site => claimTest site s.span p.assessedGross

/-- The objection is driven (06 R99; R132): a short symbol and the byte. -/
def State.driveObjection (s : State) (reason : Reason) : State :=
  if s.line.state == .normal && !s.line.holdDemand && s.control.mode != .failed then
    let byte := Objection.toByte { reason, objector := s.control.straps.number }
    { s with
      counters := { s.counters with objectionsSent := bump s.counters.objectionsSent }
      line := { s.line with response := some { bytes := [byte], isReply := false, stopped := false } } }
  else s

/-- The decisions of EOD: an objection to a CLAIM, a reply to a COMMAND for this station (R125). -/
def State.decideResponse (s : State) (bytes : List Byte) (good : Bool) : State :=
  match frameKind bytes with
  | some .claim =>
    match s.judgeClaim bytes good with
    | none => s
    | some reason => s.driveObjection reason
  | some .command =>
    if good && frameTarget bytes == s.control.straps.number then s.commandAtEod (framePayload bytes) else s
  | some .depart | some .sense | some .status | some .report | some .verdict | none => s

/-- The end of data of a frame that another station sent (R125). -/
def State.judgeReceived (s : State) (bytes : List Byte) (noted : Option RxError) : State :=
  let error := match noted with
    | some e => some e
    | none => frameError bytes
  let rx : RxAssembly :=
    { bytes, firstError := error, own := false, good := error.isNone, opening := none }
  let s := { s with line := { s.line with phase := .window, rx } }
  let s := match error with
    | none => s
    | some e => s.countRxError e
  s.decideResponse bytes error.isNone

/-- The end of data of this station's own frame (R125, R127): not judged. -/
def State.ownEndOfData (s : State) (x : InFlight) : State :=
  { s with line := { s.line with
      phase := .window, rx := { s.line.rx with bytes := x.frame.bytes, good := false, opening := none }
      inFlight := some { x with phase := .window } } }

/-- END_OF_DATA (R123, R125): from FRAME after a whole byte, or from DISCARD. -/
def endOfDataStep (s : State) (bytes : List Byte) : State :=
  let own := if s.line.rx.own then s.line.inFlight else none
  if s.line.holdsOwn then s
  else match s.line.phase, own with
    | .frame, some x => s.ownEndOfData x
    | .discard, some x => s.ownEndOfData x
    | .frame, none => if bytes.isEmpty || 13 < bytes.length then s else s.judgeReceived bytes s.line.rx.firstError
    | .discard, none => s.judgeReceived s.line.rx.bytes (some (s.line.rx.firstError.getD .framing))
    | _, _ => s

/-! ## The window (R132) -/

/-- The kinds whose window may hold a response (R124). -/
def FrameKind.drawsResponse : FrameKind → Bool
  | .claim | .command => true
  | .depart | .sense | .status | .report | .verdict => false

/-- RESPONSE_SEEN (R132; 05 R82): a dominant level over 1/6 t_b begins in the window. -/
def responseSeenStep (s : State) (us : Nat) : State :=
  if s.line.phase == .window && s.bitTime < 6 * us then
    let opening := openingOf s.bitTime us
    let unexpected := !((frameKind s.line.rx.bytes).map FrameKind.drawsResponse).getD false
    let misshapen := opening == .misshapen && us < 8 * s.bitTime
    let s := s.noteResponseError (unexpected || misshapen)
    let s := { s with line := { s.line with
      phase := .response, rx := { s.line.rx with opening := some opening } } }
    if s.claimInFlight then s.updateClaims Claim.sawResponse else s
  else s

/-! ## End of frame (R126, R131; 06 R96, R101; 10 R162) -/

/-- The line state returns to NORMAL and learning starts, unless the station is still STARTING
(R139; 06 R106). -/
def State.endIsolation (s : State) : State :=
  let s := { s with line := { s.line with
    state := .normal, isolationFrame := none, isolationTimer := none } }
  match s.control.mode with
  | .learning | .active => s.startLearning
  | .starting | .failed => s

/-- This station's own frame completes (R131). -/
def State.completeFrame (s : State) (f : TxFrame) (seen : Bool) (objection : Objection) : State :=
  let s := { s with
    counters := { s.counters with framesSent := bump s.counters.framesSent }
    line := { s.line with noEchoRun := 0, inFlight := none } }
  let s := if f.use = .isolation then s.endIsolation else s.removeFrame f
  let s := match f.kind with
    | .claim => if seen then s.claimObjected objection else s.claimGranted (framePayload f.bytes)
    | .depart =>
      let key := departKey (framePayload f.bytes)
      s.applyDepart key.1 key.2
    | .command | .sense | .status | .report | .verdict => s
  (s.dropUncoordinated.preCheck).replayAfter f

/-- A STATUS page 0 received good is compared by site checksum (10 R162). -/
def State.compareSite (s : State) (source : StationNo) (payload : List Byte) : State :=
  let theirs : BitVec 16 := BitVec.ofNat 16 (fieldAt payload 6 2)
  match s.control.calibration with
  | none => s
  | some cal =>
    if (byteAt payload 3).getLsbD 7 && !s.control.mismatch.contains source && theirs != cal.checksum then
      let s := { s with control := { s.control with mismatch := s.control.mismatch ++ [source] } }
      (s.raise .siteMismatch 0 (some source)).enqueue .report .ordinary
        (mismatchPayload source cal.checksum theirs)
    else s

/-- An identity conflict is declared (R140). -/
def State.declareConflict (s : State) : State :=
  match s.line.state with
  | .listenOnly => s
  | .normal | .isolated =>
    let s := { s with line := { s.line with
      state := .listenOnly, isolationTimer := none, isolationFrame := none } }
    (s.raise .identity 0 (some s.control.straps.number)).dropUncoordinated

/-- A frame received good is handed on at its EOF by its kind (R126). Of a frame with this station's own
number as source, the hand-on comes first and the declaration of R140 after it: DESIGN CHOICE, unsafe,
for a DEPART (R101, log 35) and for a STATUS page 0 with another checksum (R162, R166, log 37). -/
def State.handOn (s : State) (bytes : List Byte) (seen : Bool) (prepared : Option Prepared)
    (response : Option ResponseDrive) : State :=
  let source := frameSource bytes
  let payload := framePayload bytes
  let s := match frameKind bytes with
    | some .claim => if seen then s else s.addEntry source (claimPayloadOf payload)
    | some .depart =>
      let key := departKey payload
      s.applyDepart key.1 key.2
    | some .command =>
      if frameTarget bytes = s.control.straps.number then s.commandAtEof prepared response else s
    | some .status => if (byteAt payload 0).toNat / 32 = 0 then s.compareSite source payload else s
    | some .sense | some .report | some .verdict | none => s
  if source = s.control.straps.number ∧ source ≠ 15 then s.declareConflict else s

/-- The receiver at the end of a frame: IDLE, with nothing left of the frame (R123, R126). -/
def State.frameOver (s : State) : State :=
  { s with
    line := { s.line with phase := .idle, rx := .empty, response := none, echoWait := false }
    handler := { s.handler with prepared := none } }

/-- END_OF_FRAME (R126, R131, R132). A frame that the HOLD demand stopped does not complete (R138). A response
is held to the shape that its opening symbol gives, whatever the frame's kind (log 45). -/
def endOfFrameStep (s : State) (levels : List Nat) : State :=
  if s.line.holdsOwn || s.line.phase != .window && s.line.phase != .response then s
  else
    let rx := s.line.rx
    let response := s.line.response
    let prepared := s.handler.prepared
    let seen := s.line.phase == .response || response.isSome
    let broken := match s.line.phase, rx.opening with
      | .response, some .short => responseBroken s.bitTime .short levels
      | .response, some .long => responseBroken s.bitTime .long levels
      | _, _ => false
    let objection := readObjection s.bitTime rx.opening levels
    let own := if rx.own then s.line.inFlight else none
    let s := (s.noteResponseError broken).frameOver
    match own with
    | some x => if x.stopped then s.endStopped else s.completeFrame x.frame seen objection
    | none =>
      let s := s.endStopped
      if rx.good then s.handOn rx.bytes seen prepared response else s

/-! ## HOLD (R137; 05 R84; 09 R145) -/

/-- The frame in flight ends by HOLD (R137): it stays queued, but a CLAIM's claim ends (05 R84) and the
isolation frame is discarded (R139). -/
def State.holdEndsFrame (s : State) : State :=
  match s.line.inFlight with
  | none => s
  | some x =>
    let s := s.groundFrame
    match x.frame.use with
    | .isolation => s.isolationFailed
    | .ordinary | .replay | .failedStatus =>
      if x.frame.kind = .claim then s.claimHeld.removeClaimFrame else s

/-- HOLD_TAKEN (R137): counted once for each HOLD, whatever the phase. The frame in flight ends first
(05 R84), then closure enters HELD (05 R89), with no pre-check between the two (log 40). -/
def holdTakenStep (s : State) : State :=
  if s.line.phase == .hold then s
  else
    let s := s.holdEndsFrame
    let s := { s with
      counters := { s.counters with holdEvents := bump s.counters.holdEvents }
      line := { s.line with phase := .hold, rx := .empty, response := none }
      handler := { s.handler with prepared := none } }
    s.enterHeld

/-- LINE_RECESSIVE_NOTICE (R137; 09 R145). -/
def lineRecessiveNoticeStep (s : State) : State :=
  if s.line.phase == .hold then
    let s := { s with line := { s.line with phase := .seeking } }
    if s.sign.closure == .held && !s.sign.closeIn then s.enterReopening else s
  else s

/-- ISOLATION_TIMER_EXPIRY (R139): one STATUS page 0 is built outside the queue; in FAILED nothing is
(10 R155). -/
def isolationTimerExpiryStep (s : State) : State :=
  if s.line.state == .isolated && s.expired s.line.isolationTimer then
    let f : TxFrame :=
      { kind := .status, bytes := frameBytes s.control.straps.number .status s.statusPage0
        use := .isolation, arrival := s.line.nextArrival }
    { s with line := { s.line with
        isolationTimer := none
        isolationFrame := if s.control.mode == .failed then none else some f } }
  else s

/-! ## The commands -/

/-- LINE_IDLE (R123). -/
def execLineIdle (dt : Time) (s : State) : Host.Outcome State Fault Refusal :=
  done (lineIdleStep (s.advance dt))

/-- SOS_RECEIVED (R123). -/
def execSosReceived (dt : Time) (us : Nat) (s : State) : Host.Outcome State Fault Refusal :=
  done (sosReceivedStep (s.advance dt) us)

/-- RECEIVE_FRAMING_ERROR (R123). -/
def execReceiveFramingError (dt : Time) (cause : FramingCause) (bytes : List Byte) (s : State) :
    Host.Outcome State Fault Refusal :=
  done (receiveFramingErrorStep (s.advance dt) cause bytes)

/-- FRAME_START (R127). -/
def execFrameStart (dt : Time) (join : Bool) (s : State) : Host.Outcome State Fault Refusal :=
  done (frameStartStep (s.advance dt) join)

/-- NO_ECHO_FAULT (R128). -/
def execNoEchoFault (dt : Time) (s : State) : Host.Outcome State Fault Refusal :=
  done (noEchoFaultStep (s.advance dt))

/-- ARBITRATION_LOSS (R129). -/
def execArbitrationLoss (dt : Time) (cell : Nat) (s : State) : Host.Outcome State Fault Refusal :=
  done (arbitrationLossStep (s.advance dt) cell)

/-- BIT_ERROR (R130). -/
def execBitError (dt : Time) (cell : Nat) (s : State) : Host.Outcome State Fault Refusal :=
  done (bitErrorStep (s.advance dt) cell)

/-- END_OF_DATA (R125). -/
def execEndOfData (dt : Time) (bytes : List Byte) (s : State) : Host.Outcome State Fault Refusal :=
  done (endOfDataStep (s.advance dt) bytes)

/-- RESPONSE_SEEN (R132). -/
def execResponseSeen (dt : Time) (us : Nat) (s : State) : Host.Outcome State Fault Refusal :=
  done (responseSeenStep (s.advance dt) us)

/-- END_OF_FRAME (R126). -/
def execEndOfFrame (dt : Time) (levels : List Nat) (s : State) : Host.Outcome State Fault Refusal :=
  done (endOfFrameStep (s.advance dt) levels)

/-- HOLD_TAKEN (R137). -/
def execHoldTaken (dt : Time) (s : State) : Host.Outcome State Fault Refusal :=
  done (holdTakenStep (s.advance dt))

/-- LINE_RECESSIVE_NOTICE (R137). -/
def execLineRecessiveNotice (dt : Time) (s : State) : Host.Outcome State Fault Refusal :=
  done (lineRecessiveNoticeStep (s.advance dt))

/-- ISOLATION_TIMER_EXPIRY (R139). -/
def execIsolationTimerExpiry (dt : Time) (s : State) : Host.Outcome State Fault Refusal :=
  done (isolationTimerExpiryStep (s.advance dt))

end Sys2Proof.Machine
end

