-- ==== Sys2Proof/Machine/Samples.lean ====
section
/-! DEFINITION. The Sample Port and the Pulse Detector: SAMPLE_FRAME, SAMPLE_BYTE_TIMEOUT, HEAD_LOST_TIMER, SAMPLE_CONSUME (01). -/

namespace Sys2Proof.Machine

/-! ## Sample Port: sequence judgement (R3, R4) -/

/-- The judgement of a good frame while the head is READY (R3). -/
inductive Judgement
  | normal
  | gap (count : Nat)
  | duplicate
  | resync
  deriving DecidableEq, Repr

/-- R3's table on the sequence difference d. -/
def judge (last : Option SampleFrame) (f : SampleFrame) : Judgement :=
  match last with
  | none => .resync
  | some g =>
    let d := (f.sequence - g.sequence).toNat
    if d = 1 then .normal
    else if 2 ≤ d ∧ d ≤ 64 then .gap (d - 1)
    else if f = g then .duplicate
    else .resync

/-- The smallest index greater than the last delivered index plus 64 whose low 16 bits equal the
sequence (R4); the sequence itself where nothing has been delivered since the start. -/
def resyncIndex (last : Option Index) (sequence : BitVec 16) : Index :=
  match last with
  | none => sequence.zeroExtend 32
  | some l =>
    let base := l + 65
    base + (sequence - base.truncate 16).zeroExtend 32

/-- The head-lost timer is restarted (R10). -/
def State.restartHeadTimer (s : State) : State :=
  { s with port := { s.port with headTimer := some (s.after headLostTime) } }

/-- One more in *sample gaps and overruns*. -/
def State.countGap (s : State) : State :=
  { s with counters := { s.counters with sampleGaps := bump s.counters.sampleGaps } }

/-- A frame is accepted into the FIFO (R4 to R7): it becomes the last good frame and sets the hold
values; `counted` says whether the break it ends is to be counted. -/
def State.acceptFrame (s : State) (f : SampleFrame) (index : Index) (gaps : Nat) (mark : EntryMark)
    (counted : Bool) : State :=
  let hold := s.port.hold.getD f.reading
  let s := if counted && !s.port.overrun then s.countGap else s
  { s with port := { s.port with
      fifo := s.port.fifo ++ [{ index, reading := f.reading, gaps, hold, mark }]
      lastGood := some f, hold := some f.reading, lastIndex := some index, overrun := false } }

/-- An overrun discard (R7). -/
def State.overrunDiscard (s : State) : State :=
  let s := s.countGap
  { s with port := { s.port with overrun := true } }

/-- A good frame while the head is READY (R3 to R7, R10). -/
def State.judgeFrame (s : State) (f : SampleFrame) : State :=
  let last := s.port.lastIndex
  match judge s.port.lastGood f with
  | .duplicate => s
  | j =>
    let s := s.restartHeadTimer
    if fifoCapacity ≤ s.port.fifo.length then s.overrunDiscard
    else match j with
      | .gap g => s.acceptFrame f (last.getD 0 + span32 (g + 1)) g .plain true
      | .normal => s.acceptFrame f (last.getD 0 + 1) 0 .plain false
      | .resync | .duplicate => s.acceptFrame f (resyncIndex last f.sequence) 0 .resync true

/-- The head becomes READY with this frame as the seed entry (R9); a head wait goes on to the calibration
step (10 R156). -/
def State.headReady (s : State) (f : SampleFrame) : State :=
  let index := resyncIndex s.port.lastIndex f.sequence
  let entry : FifoEntry := { index, reading := f.reading, gaps := 0, hold := f.reading, mark := .seed }
  let s := { s with
    port := { s.port with
      head := .ready, lastGood := some f, hold := some f.reading, lastIndex := some index
      fifo := s.port.fifo ++ [entry], runLength := 0, runLast := none }
    control := { s.control with
      mask := { s.control.mask with head := false }
      startStep := if s.control.startStep == StartStep.headWait then .calibration else s.control.startStep } }
  s.restartHeadTimer

/-- A good frame while the head is ABSENT (R9): the ready run. -/
def State.runFrame (s : State) (f : SampleFrame) : State :=
  match s.port.runLast with
  | some g =>
    if f = g then s
    else
      let n := if f.sequence = g.sequence + 1 then s.port.runLength + 1 else 1
      if readyRunFrames ≤ n then s.headReady f
      else { s with port := { s.port with runLength := n, runLast := some f } }
  | none =>
    if readyRunFrames ≤ 1 then s.headReady f
    else { s with port := { s.port with runLength := 1, runLast := some f } }

/-- The ready run is emptied (R9, R10). -/
def SamplePort.emptyRun (p : SamplePort) : SamplePort := { p with runLength := 0, runLast := none }

/-- A frame is discarded by R2: counted, and the ready run of an ABSENT head is emptied (R9). -/
def State.discardSample (s : State) : State :=
  { s with
    counters := { s.counters with sampleCrcErrors := bump s.counters.sampleCrcErrors }
    port := if s.port.head == .absent then s.port.emptyRun else s.port }

/-- SAMPLE_FRAME (R2, R3, R9). Bytes that make no complete frame are no frame (R2). -/
def sampleFrameStep (s : State) (bytes : List Byte) : State :=
  if !sampleFrameSane bytes then s
  else if !sampleFrameGood bytes then s.discardSample
  else if s.port.head == .ready then s.judgeFrame (sampleFrameOf bytes)
  else s.runFrame (sampleFrameOf bytes)

/-- SAMPLE_BYTE_TIMEOUT (R2). -/
def sampleByteTimeoutStep (s : State) (part : List Byte) : State :=
  if partialFrameSane part then s.discardSample else s

/-! ## Pulse Detector: one channel (R11 to R15) -/

/-- The baseline b = floor(Bs / 64) (R11). -/
def ChannelState.baseline (c : ChannelState) : Int := c.sum / 64

/-- What a sample brings besides its value (R13). -/
structure SampleContext where
  index : Index
  stamp : Time
  temperature : Byte
  isGap : Bool
  rowDrop : Bool
  deriving DecidableEq, Repr

/-- A channel takes a sample (R12 to R15); the second part is the pulse that the sample ended. -/
def ChannelState.take (c : ChannelState) (tOn tOff : Nat) (x : SampleContext) (sample : Int) :
    ChannelState × Option PulseInProgress :=
  let d := sample - c.baseline
  match c.mode with
  | .unseeded => (c, none)
  | .tracking =>
    if (tOn : Int) ≤ d then
      let p : PulseInProgress :=
        { onset := x.index, stamp := x.stamp, temperature := x.temperature
          area := d.toNat, peak := d.toNat, length := 1, gap := x.isGap || x.rowDrop }
      ({ c with mode := .pulse p }, none)
    else ({ c with sum := c.sum + d }, none)
  | .pulse p =>
    if (tOff : Int) ≤ d then
      if stuckLength ≤ p.length + 1 then ({ c with mode := .stuck }, none)
      else
        let p := { p with area := p.area + d.toNat, peak := max p.peak d.toNat,
                          length := p.length + 1, gap := p.gap || x.isGap }
        ({ c with mode := .pulse p }, none)
    else ({ sum := c.sum + d, mode := .tracking }, some p)
  | .stuck =>
    if (tOff : Int) ≤ d then (c, none) else ({ sum := 64 * sample, mode := .tracking }, none)

/-- The record of a finished pulse (R14). -/
def recordOfPulse (channel : Channel) (p : PulseInProgress) : PulseRecord :=
  { channel, onset := p.onset, stamp := p.stamp, temperature := p.temperature
    area := p.area, peak := p.peak, gap := p.gap }

def PulseDetector.dropMark (d : PulseDetector) : Row → Bool
  | .a => d.dropA
  | .b => d.dropB

def PulseDetector.setDrop (d : PulseDetector) (row : Row) (v : Bool) : PulseDetector :=
  match row with
  | .a => { d with dropA := v }
  | .b => { d with dropB := v }

/-- A record comes to the pulse queue (R17): it joins, with GAP where its row's drop mark is set, or
is dropped and sets the mark. The note beside it is the settled index last published (02 R22). -/
def PulseDetector.join (d : PulseDetector) (r : PulseRecord) : PulseDetector :=
  if pulseQueueCapacity ≤ d.queue.length then d.setDrop r.channel.row true
  else
    let q : QueuedPulse :=
      { record := { r with gap := r.gap || d.dropMark r.channel.row }, note := d.settled }
    ({ d with queue := d.queue ++ [q] }).setDrop r.channel.row false

/-- The records of the pulses that one sample ended join in channel order (R17). -/
def PulseDetector.joinAll (d : PulseDetector) (ended : List (Channel × Option PulseInProgress)) :
    PulseDetector :=
  ended.foldl (fun d p => match p.2 with
    | some pulse => d.join (recordOfPulse p.1 pulse)
    | none => d) d

/-- Steps 1 and 2 of R8: the four channels take the sample, then the finished records join. -/
def PulseDetector.apply (d : PulseDetector) (tOn tOff : Nat) (x : SampleContext) (r : Reading) :
    PulseDetector :=
  let xa := { x with rowDrop := d.dropA }
  let xb := { x with rowDrop := d.dropB }
  let al := d.al.take tOn tOff xa r.al.toInt
  let ar := d.ar.take tOn tOff xa r.ar.toInt
  let bl := d.bl.take tOn tOff xb r.bl.toInt
  let br := d.br.take tOn tOff xb r.br.toInt
  ({ d with al := al.1, ar := ar.1, bl := bl.1, br := br.1 }).joinAll
    [(.al, al.2), (.ar, ar.2), (.bl, bl.2), (.br, br.2)]

/-- The onset of a channel's pulse in progress. -/
def ChannelState.onset? (c : ChannelState) : Option Index :=
  match c.mode with
  | .pulse p => some p.onset
  | .unseeded | .tracking | .stuck => none

/-- The settled index after a sample (R18). -/
def PulseDetector.settledAt (d : PulseDetector) (index : Index) : Index :=
  match earliest ([d.al, d.ar, d.bl, d.br].filterMap ChannelState.onset?) with
  | none => index
  | some onset => onset - 1

/-- A channel seeded from a sample (R11). -/
def ChannelState.seeded (sample : Int) : ChannelState := { sum := 64 * sample, mode := .tracking }

/-- All four channels seeded from an entry's own samples (R6, R11). -/
def PulseDetector.seed (d : PulseDetector) (r : Reading) : PulseDetector :=
  { d with al := .seeded r.al.toInt, ar := .seeded r.ar.toInt, bl := .seeded r.bl.toInt
           br := .seeded r.br.toInt }

/-- A channel leaves PULSE and STUCK without a record (R16). -/
def ChannelState.cleared (c : ChannelState) : ChannelState := { c with mode := .unseeded }

/-- The clearing of R16: the detector, then the Axle Former (02 R36), then the Assembler, which closes
its open vehicle with GAP (03 R45). Channels are left UNSEEDED. -/
def State.discontinuity (s : State) : State :=
  let d := s.detector
  let s := { s with
    detector := { al := d.al.cleared, ar := d.ar.cleared, bl := d.bl.cleared, br := d.br.cleared
                  queue := [], dropA := false, dropB := false, settled := none }
    former := { openA := none, openB := none, waitingB := [], pendingA := [], lastDn := none } }
  s.breakAssembler

/-! ## Consuming an entry (R5, R8, R18, R19) -/

/-- One sample through the detector, the Assembler and the settled index (R8 steps 1 to 4); where the
pulse queue is empty the former then handles its horizon (02 R22). -/
def State.consumeSample (s : State) (index : Index) (r : Reading) (isGap : Bool) : State :=
  let x : SampleContext :=
    { index, stamp := s.now, temperature := r.temperature, isGap, rowDrop := false }
  let s := { s with detector := s.detector.apply s.tOn s.tOff x r }
  let s := s.takeSample index s.now r.presence
  let s := { s with detector := { s.detector with settled := some (s.detector.settledAt index) } }
  if s.detector.queue.isEmpty then s.handleHorizon else s

/-- The missing samples before an entry, in index order (R5). -/
def State.consumeGaps (s : State) (e : FifoEntry) : Nat → State
  | 0 => s
  | n + 1 => (s.consumeSample (e.index - span32 (n + 1)) e.hold true).consumeGaps e n

/-- An entry's marks come before its sample is applied (R6, R11). -/
def State.markEntry (s : State) (e : FifoEntry) : State :=
  match e.mark with
  | .plain => s
  | .seed => { s with detector := s.detector.seed e.reading }
  | .resync =>
    let s := s.discontinuity
    { s with detector := s.detector.seed e.reading }

/-- SAMPLE_CONSUME (R8): the oldest entry, under the stamp of now. -/
def sampleConsumeStep (s : State) : State :=
  match s.port.fifo with
  | [] => s
  | e :: rest =>
    let s := { s with port := { s.port with fifo := rest } }
    let s := s.consumeGaps e e.gaps
    (s.markEntry e).consumeSample e.index e.reading false

/-- A head that became READY during the head wait and is lost before its limit: the wait goes on to the
limit or to the next READY (10 R156). That this holds until the start load has ended, and that a start
load in flight runs on meanwhile, is DESIGN CHOICE (log 36), unsafe. -/
def State.resumeHeadWait (s : State) : State :=
  { s with control := { s.control with startStep :=
      if s.control.startStep == StartStep.calibration
          && !(reached s.now (span32 (headWaitLimit s.control.restarted))) then .headWait
      else s.control.startStep } }

/-- HEAD_LOST_TIMER (R10; 10 R156). -/
def headLostStep (s : State) : State :=
  if s.port.head == .ready && s.expired s.port.headTimer then
    let s := { s with port := { s.port.emptyRun with
      head := .absent, fifo := [], overrun := false, headTimer := none } }
    ((s.resumeHeadWait.raise .headLost 0 none).discontinuity).dropUncoordinated
  else s

/-! ## The commands -/

/-- SAMPLE_FRAME (R3). -/
def execSampleFrame (dt : Time) (bytes : List Byte) (s : State) : Host.Outcome State Fault Refusal :=
  done (sampleFrameStep (s.advance dt) bytes)

/-- SAMPLE_BYTE_TIMEOUT (R2). -/
def execSampleByteTimeout (dt : Time) (part : List Byte) (s : State) :
    Host.Outcome State Fault Refusal :=
  done (sampleByteTimeoutStep (s.advance dt) part)

/-- HEAD_LOST_TIMER (R10). -/
def execHeadLostTimer (dt : Time) (s : State) : Host.Outcome State Fault Refusal :=
  done (headLostStep (s.advance dt))

/-- SAMPLE_CONSUME (R8). -/
def execSampleConsume (dt : Time) (s : State) : Host.Outcome State Fault Refusal :=
  done (sampleConsumeStep (s.advance dt))

end Sys2Proof.Machine
end

