-- ==== Sys2Proof/Machine/Start.lean ====
section
/-! DEFINITION. Start-up: POWER_ON, SELF_TEST, HEAD_WAIT_LIMIT, RESTART (10 R152 to R156, R163). -/

namespace Sys2Proof.Machine

/-- The beginning of a start with the straps sampled: every block at its power-on value (R152, R153,
R163). The input pins stand as they are, and the queue of commands is not the block's to change. -/
def State.started (s : State) (pins : Straps) (restarted : Bool) : State :=
  { State.reset with
    control := { StationControl.reset with
      straps := pins, mask := { SelfTestMask.clear with strap := pins.number == 15 },
      startStep := .selfTest, restarted }
    sign := { SignControl.reset with
      rawCloseIn := s.sign.rawCloseIn
      divert := { SignControl.reset.divert with current := s.sign.divert.current }
      closed := { SignControl.reset.closed with current := s.sign.closed.current } }
    pending := s.pending }

/-- What a RESTART keeps (R163): the counters, the history ring, the tag counter, and the duplicates,
lost-entries and lost-sense counts. -/
def State.restarted (s : State) (pins : Straps) : State :=
  let f := s.started pins true
  { f with
    counters := s.counters
    control := { f.control with lostSense := s.control.lostSense }
    assembler := { f.assembler with history := s.assembler.history, tagCounter := s.assembler.tagCounter }
    span := { f.span with duplicates := s.span.duplicates, lost := s.span.lost } }

/-- Any bit that leads to FAILED (R154). -/
def SelfTestMask.fails (m : SelfTestMask) : Bool :=
  m.memTable || m.memHistory || m.memQueue || m.lineLoop || m.strap

/-- Entry to FAILED (R155): SELF_TEST is raised, the Span Table and the transmit queue are emptied, the
HOLD demand clears (09 R144), and a station with a number and a line path queues STATUS page 0. A frame
or response on the line is driven no further: DEDUCED (log 16), unsafe. -/
def State.enterFailed (s : State) : State :=
  let s := ({ s with control := { s.control with mode := .failed } }).endAttempt.dropUncoordinated
  let s := { s with line := s.line.stopResponse }
  let s := s.raise .selfTest s.control.mask.toByte none
  let s := { s with span := s.span.clear
                    line := { s.line with txq := [], holdDemand := false }
                    handler := { s.handler with replay := none } }
  if s.control.mask.strap || s.control.mask.lineLoop then s
  else (s.putFrame .status .failedStatus s.statusPage0).1

/-- The head-wait step is reached (R156): a head already READY ends it at once. -/
def State.enterHeadWait (s : State) : State :=
  { s with control := { s.control with
      startStep := if s.port.head == .ready then .calibration else .headWait } }

def selfTestStep (s : State) (f : SelfTestFailures) : State :=
  if s.control.mode == .starting && s.control.startStep == .selfTest then
    let s := { s with control := { s.control with mask := { s.control.mask with
      memTable := f.memTable, memHistory := f.memHistory, memQueue := f.memQueue,
      lineLoop := f.lineLoop } } }
    if s.control.mask.fails then s.enterFailed else s.enterHeadWait
  else s

/-- HEAD_WAIT_LIMIT (R156). -/
def headWaitLimitStep (s : State) : State :=
  if s.control.startStep == .headWait && s.port.head == .absent
      && reached s.now (span32 (headWaitLimit s.control.restarted)) then
    let s := { s with control := { s.control with
      mask := { s.control.mask with head := true }, startStep := .calibration } }
    s.raise .headAbsent 0 none
  else s

/-- A RESTART that is due is performed (11 R165; R163). -/
def restartStep (s : State) (pins : Straps) : State :=
  if s.handler.due == some .restart then s.restarted pins else s

/-! ## The commands -/

/-- POWER_ON (R163). -/
def execPowerOn (pins : Straps) (s : State) : Host.Outcome State Fault Refusal :=
  done (s.started pins false)

/-- SELF_TEST (R154, R155). -/
def execSelfTest (dt : Time) (failures : SelfTestFailures) (s : State) :
    Host.Outcome State Fault Refusal :=
  done (selfTestStep (s.advance dt) failures)

/-- HEAD_WAIT_LIMIT (R156). -/
def execHeadWaitLimit (dt : Time) (s : State) : Host.Outcome State Fault Refusal :=
  done (headWaitLimitStep (s.advance dt))

/-- RESTART (R163, R165). -/
def execRestart (pins : Straps) (s : State) : Host.Outcome State Fault Refusal :=
  done (restartStep s pins)

end Sys2Proof.Machine
end

