-- ==== Sys2Proof/Machine/Weigh.lean ====
section
/-! DEFINITION. The Weigh Unit and the Exit Matcher: WEIGHING (04, 07). -/

namespace Sys2Proof.Machine

/-! ## Factor, estimates, loads (04 R57 to R62) -/

/-- The temperature band: 1 plus the number of bounds at or below the temperature; band 1 where the
head had no reading (R57). -/
def bandOf (bounds : List Int) (temperature : Int) : Nat :=
  if temperature = -128 then 1 else 1 + bounds.countP fun t => decide (t ≤ temperature)

/-- The calibration factor at a weighing speed, over the nodes with their factors (R58). -/
def factorAt (v : Nat) : List (Nat × Nat) → Nat
  | [] => 0
  | [(_, f)] => f
  | (v₁, f₁) :: (v₂, f₂) :: rest =>
    if v ≤ v₁ then f₁
    else if v < v₂ then
      ((f₁ : Int) + roundHalfUpInt (((f₂ : Int) - f₁) * ((v : Int) - v₁)) (v₂ - v₁)).toNat
    else factorAt v ((v₂, f₂) :: rest)

/-- A channel estimate with its clamp (R59). -/
def estimate (scale speed factor area : Nat) : Nat × Bool :=
  clampLoad (roundHalfUp (area * speed * factor) (scale * 16384))

/-- A wheel load from the estimates of its side, none where the side is absent (R60). -/
def wheelLoad : Option Nat → Option Nat → Option Nat
  | some a, some b => some ((a + b + 1) / 2)
  | some a, none => some a
  | none, some b => some b
  | none, none => none

/-- An axle load before its clamp: two wheels, or one wheel doubled (R61). -/
def axleSum : Option Nat → Option Nat → Nat
  | some l, some r => l + r
  | some w, none => 2 * w
  | none, some w => 2 * w
  | none, none => 0

/-- The load of a weighable axle, and whether a clamp set SATURATED (R59 to R61). -/
def axleLoad (lane : LaneSection) (band vehicleSpeed : Nat) (x : Axle) : Nat × Bool :=
  let v := x.speed.getD vehicleSpeed
  let f := factorAt v (lane.nodes.zip (lane.factors.getD (band - 1) []))
  let al := x.al.map (estimate lane.scaleAL v f)
  let ar := x.ar.map (estimate lane.scaleAR v f)
  let bl := x.bl.map (estimate lane.scaleBL v f)
  let br := x.br.map (estimate lane.scaleBR v f)
  let sum := clampLoad (axleSum (wheelLoad (al.map Prod.fst) (bl.map Prod.fst))
    (wheelLoad (ar.map Prod.fst) (br.map Prod.fst)))
  (sum.1, sum.2 || [al, ar, bl, br].any fun e => (e.map Prod.snd).getD false)

/-- The assessed value of a load under a tolerance, with its clamp (R64). -/
def assess (tolerance load : Nat) : Nat × Bool := clampLoad ((load * (100 + tolerance) + 99) / 100)

/-! ## Vehicle speed and spacings (04 R56, R65) -/

/-- The vehicle speed: the mean of the paired axles' speeds, held within v_min and v_max (R56). -/
def vehicleSpeed (vMin vMax : Nat) (axles : List Axle) : Option Nat :=
  (meanHalfUp (axles.filterMap Axle.speed)).map fun v => min (max v vMin) vMax

/-- Every axle after the first takes its spacing from the one before it (R65). -/
def withSpacings (speed : Nat) : Option Index → List Axle → List Axle
  | _, [] => []
  | prev, x :: l =>
    { x with spacing := prev.map fun p => spacingOf p x.reference speed }
      :: withSpacings speed (some x.reference) l

/-- The light-wheelbase mark of an UNWEIGHED record (R67). -/
def lightMarkOf (limit axleCount : Nat) (axles : List Axle) : Bool :=
  axleCount == 2 && match axles with
    | [_, x] => (x.spacing.map fun w => decide (w < limit)).getD false
    | _ => false

/-! ## The weighing (04 R55, R63 to R68) -/

/-- The verdict of a weighable record (R66, checks 2 to 4). -/
def verdictOf (site : SiteSection) (overflow : Bool) (assessedAxles : List Nat) (assessedGross : Nat) :
    Verdict :=
  if overflow || assessedAxles.any (fun a => decide (site.axleLimit < a))
      || decide (site.grossLimit < assessedGross) then .overlimit
  else if site.claimThreshold ≤ assessedGross then .heavy
  else .light

/-- The loads, assessment and verdict of a weighable record (R58 to R66). -/
def weighLoads (cal : Calibration) (speed : Nat) (r : VehicleRecord) : VehicleRecord :=
  let loads := r.axles.map (axleLoad cal.lane (r.band.getD 1) speed)
  let gross := clampLoad (loads.map Prod.fst).sum
  let t := if r.flags.degraded then cal.site.degradedTolerance else cal.site.normalTolerance
  let assessedAxles := loads.map fun l => assess t l.1
  let assessed := assess t gross.1
  let saturated := loads.any Prod.snd || gross.2 || assessedAxles.any Prod.snd || assessed.2
  { r with
    axles := List.zipWith (fun (x : Axle) (l : Nat × Bool) => { x with load := some l.1 }) r.axles loads
    measuredGross := gross.1, assessedGross := assessed.1
    flags := { r.flags with saturated := r.flags.saturated || saturated }
    verdict := some (verdictOf cal.site r.flags.axleOverflow (assessedAxles.map Prod.fst) assessed.1)
    lightMark := false }

/-- The loads of an unweighable record are 0 and its verdict is UNWEIGHED (R55, R66, R67). -/
def weighNothing (limit : Nat) (r : VehicleRecord) : VehicleRecord :=
  { r with
    axles := r.axles.map fun x => { x with load := some 0 }
    measuredGross := 0, assessedGross := 0, verdict := some .unweighed
    lightMark := lightMarkOf limit r.axleCount r.axles }

/-- The weighing of a record under the working calibration in force (R53, R55 to R57, R65). -/
def State.weigh (s : State) (r : VehicleRecord) : VehicleRecord :=
  let speed := vehicleSpeed s.vMin s.vMax r.axles
  let temperature := (r.axles.head?.map fun x => x.temperature.toInt).getD (-128)
  let r := { r with
    speed
    band := some (match s.lane? with
      | none => 1
      | some lane => bandOf lane.tempBounds temperature)
    axles := withSpacings (speed.getD s.defaultSpeed) none r.axles
    flags := { r.flags with tempOut := r.flags.tempOut || temperature == -128 } }
  match s.control.calibration, speed with
  | some cal, some v => weighLoads cal v r
  | _, _ => weighNothing s.lightWheelbase r

/-! ## Exit Matcher (07) -/

/-- The five conditions of R112 for an entry and a record to be searched. -/
def exitMatches (site : SiteSection) (stationEnd : SpanEnd) (r : VehicleRecord) (e : SpanEntry) : Bool :=
  e.entryEnd != stationEnd
    && !e.departing
    && e.axleCount == r.axleCount
    && decide (((r.measuredGross : Int) - e.measuredGross).natAbs * 100
        ≤ site.matchTolerance * e.measuredGross)
    && decide ((site.minTransit * 100 : Int) ≤ modDiff r.firstStamp e.admission)

/-- The departing mark of an entry is set (06 R103, R113). -/
def SpanTable.markDeparting (t : SpanTable) (e : SpanEntry) : SpanTable :=
  { t with entries := t.entries.map fun x => if x = e then { x with departing := true } else x }

/-- An unmatched departure (R115, R117). -/
def State.exitUnmatched (s : State) (r : VehicleRecord) : State :=
  (s.enqueue .report .ordinary (unmatchedPayload r)).finishVehicle r .exitUnmatched

/-- A record to be searched (R112, R113, R115). -/
def State.exitSearch (s : State) (site : SiteSection) (r : VehicleRecord) : State :=
  match s.span.entries.find? (exitMatches site s.spanEnd r) with
  | none => s.exitUnmatched r
  | some e =>
    let s := { s with span := s.span.markDeparting e }
    (s.enqueue .depart .ordinary (departPayload e.origin e.tag 1)).finishVehicle r .exitMatched

/-- A weighed record at an exit station (R111). -/
def State.exitTake (s : State) (r : VehicleRecord) : State :=
  match r.verdict, s.site? with
  | some .light, some site | some .heavy, some site | some .overlimit, some site =>
    if r.assessedGross < site.claimThreshold then s.finishVehicle r .exitLight
    else s.exitSearch site r
  | _, _ => if r.lightMark then s.finishVehicle r .exitLight else s.exitUnmatched r

/-- WEIGHING (R53, R68): the head of the closed-vehicle queue is weighed and handed on. -/
def weighingStep (s : State) : State :=
  if s.control.load.isSome || s.control.startStep != .done || s.admission.waiting.isSome then s
  else match s.assembler.closedQueue with
    | [] => s
    | r :: rest =>
      let r := s.weigh r
      let s := { s with assembler := ({ s.assembler with closedQueue := rest } : Assembler).feed }
      match s.control.straps.role with
      | .entry => { s with admission := { s.admission with waiting := some r } }
      | .exit => s.exitTake r

/-- WEIGHING (R53). -/
def execWeighing (dt : Time) (s : State) : Host.Outcome State Fault Refusal :=
  done (weighingStep (s.advance dt))

end Sys2Proof.Machine
end

