-- ==== Sys2Proof/Machine/Dispatch.lean ====
section
/-! DEFINITION. exec: one arm per row of spec/opcode_table.json, each one call of the command's meaning. -/

namespace Sys2Proof.Machine

def exec (i : Instr) (s : State) : Host.Outcome State Fault Refusal :=
  match i with
  | .powerOn pins => Sys2Proof.Machine.execPowerOn pins s
  | .selfTest dt failures => Sys2Proof.Machine.execSelfTest dt failures s
  | .sampleFrame dt bytes => Sys2Proof.Machine.execSampleFrame dt bytes s
  | .sampleByteTimeout dt part => Sys2Proof.Machine.execSampleByteTimeout dt part s
  | .headLostTimer dt => Sys2Proof.Machine.execHeadLostTimer dt s
  | .sampleConsume dt => Sys2Proof.Machine.execSampleConsume dt s
  | .pulseRecordTake dt => Sys2Proof.Machine.execPulseRecordTake dt s
  | .weighing dt => Sys2Proof.Machine.execWeighing dt s
  | .acceptRecord dt => Sys2Proof.Machine.execAcceptRecord dt s
  | .backoffExpiry dt tag => Sys2Proof.Machine.execBackoffExpiry dt tag s
  | .deadlineExpiry dt tag => Sys2Proof.Machine.execDeadlineExpiry dt tag s
  | .entryExpiry dt origin tag => Sys2Proof.Machine.execEntryExpiry dt origin tag s
  | .learningTimerExpiry dt => Sys2Proof.Machine.execLearningTimerExpiry dt s
  | .lineIdle dt => Sys2Proof.Machine.execLineIdle dt s
  | .receiveFramingError dt cause bytes => Sys2Proof.Machine.execReceiveFramingError dt cause bytes s
  | .frameStart dt join => Sys2Proof.Machine.execFrameStart dt join s
  | .noEchoFault dt => Sys2Proof.Machine.execNoEchoFault dt s
  | .arbitrationLoss dt cell => Sys2Proof.Machine.execArbitrationLoss dt cell s
  | .bitError dt cell => Sys2Proof.Machine.execBitError dt cell s
  | .endOfData dt bytes => Sys2Proof.Machine.execEndOfData dt bytes s
  | .endOfFrame dt levels => Sys2Proof.Machine.execEndOfFrame dt levels s
  | .holdTaken dt => Sys2Proof.Machine.execHoldTaken dt s
  | .lineRecessiveNotice dt => Sys2Proof.Machine.execLineRecessiveNotice dt s
  | .isolationTimerExpiry dt => Sys2Proof.Machine.execIsolationTimerExpiry dt s
  | .closeInEdge dt level => Sys2Proof.Machine.execCloseInEdge dt level s
  | .closeInDebounced dt => Sys2Proof.Machine.execCloseInDebounced dt s
  | .reopenTimerExpiry dt => Sys2Proof.Machine.execReopenTimerExpiry dt s
  | .longHoldTimer dt => Sys2Proof.Machine.execLongHoldTimer dt s
  | .holdUntilReached dt => Sys2Proof.Machine.execHoldUntilReached dt s
  | .lampFeedbackChange dt lamp current => Sys2Proof.Machine.execLampFeedbackChange dt lamp current s
  | .lampDisagreementExpiry dt lamp => Sys2Proof.Machine.execLampDisagreementExpiry dt lamp s
  | .headWaitLimit dt => Sys2Proof.Machine.execHeadWaitLimit dt s
  | .calibrationLoadBegin dt => Sys2Proof.Machine.execCalibrationLoadBegin dt s
  | .calibrationRetry dt => Sys2Proof.Machine.execCalibrationRetry dt s
  | .calibrationLoadEnd dt record => Sys2Proof.Machine.execCalibrationLoadEnd dt record s
  | .calMemoryTimeout dt => Sys2Proof.Machine.execCalMemoryTimeout dt s
  | .statusPage dt => Sys2Proof.Machine.execStatusPage dt s
  | .sense dt => Sys2Proof.Machine.execSense dt s
  | .reload dt => Sys2Proof.Machine.execReload dt s
  | .restart pins => Sys2Proof.Machine.execRestart pins s
  | .readVehicle dt => Sys2Proof.Machine.execReadVehicle dt s
  | .clearCounters dt => Sys2Proof.Machine.execClearCounters dt s
  | .sosReceived dt us => Sys2Proof.Machine.execSosReceived dt us s
  | .responseSeen dt us => Sys2Proof.Machine.execResponseSeen dt us s

end Sys2Proof.Machine
end

