-- ==== Sys2Proof/Safety.lean ====
section
/-! DEFINITION. What a safe run keeps: the invariants of the block, and the vocabulary in which statements say what a command leaves
unchanged. -/

namespace Sys2Proof.Machine

/-! ## Capacities (00, section 7) -/

/-- Every collection is within its capacity (00, section 7), with what keeps it so: a FIFO is empty while
the head is ABSENT (01 R9, R10), and records wait outbound only while the closed-vehicle queue is full
(03 R51). -/
structure State.WithinCapacity (s : State) : Prop where
  fifo : s.port.fifo.length ≤ fifoCapacity
  fifoAbsent : s.port.head = .absent → s.port.fifo = []
  readyRun : s.port.runLength < readyRunFrames
  pulseQueue : s.detector.queue.length ≤ pulseQueueCapacity
  pendingA : s.former.pendingA.length ≤ pendingCapacity
  waitingB : s.former.waitingB.length ≤ waitingCapacity
  openList : ∀ v, s.assembler.vehicle = some v → v.axles.length ≤ openListCapacity
  closedQueue : s.assembler.closedQueue.length ≤ closedQueueCapacity
  outbound : s.assembler.outbound ≠ [] → s.assembler.closedQueue.length = closedQueueCapacity
  history : s.assembler.history.length ≤ historyCapacity
  claims : s.admission.claims.length ≤ claimCapacity
  span : s.span.entries.length ≤ spanCapacity
  txq : s.line.txq.length ≤ txCapacity
  noEchoRun : s.line.noEchoRun ≤ 3

/-! ## The view (06 R91, R93, R109) -/

/-- The running sum of a list of entries. -/
def loadOf (entries : List SpanEntry) : Nat := (entries.map SpanEntry.assessedGross).sum

/-- The Span Table is sound: keys are distinct (R91), the running sum and the count are those of the
entries (R93), and a FAILED station's table is empty (R91, R109). -/
structure State.ViewSound (s : State) : Prop where
  distinct : (s.span.entries.map fun e => (e.origin, e.tag)).Nodup
  sum : s.span.sum = loadOf s.span.entries
  count : s.span.count = s.span.entries.length
  failed : s.control.mode = .failed → s.span.entries = []

/-! ## Closure (05 R89; 09 R144) -/

/-- No claim is held while closure is not OPEN (05 R89), and a FAILED station demands no HOLD
(09 R144). -/
structure State.ClosureSound (s : State) : Prop where
  noClaims : s.sign.closure ≠ .opened → s.admission.claims = []
  noDemand : s.control.mode = .failed → s.line.holdDemand = false

/-! ## Outputs (09 R148; 11 R166) -/

/-- The outputs are those of the conditions: both lamp commands (09 R148) and FAULT (11 R166). -/
structure State.OutputsFollow (s : State) : Prop where
  closed : s.sign.closed.command = true ↔ s.sign.closure ≠ .opened
  divert : s.sign.divert.command = true ↔
    ¬ (s.control.mode = .active ∧ s.control.calibration.isSome ∧ s.port.head = .ready
        ∧ s.line.state = .normal)
      ∨ s.sign.closure ≠ .opened ∨ s.sign.holdUntil.isSome
  fault : s.control.fault = true ↔ s.control.sense.isSome ∨ s.control.mode = .failed

/-! ## Frames -/

/-- The parts of the state that a command may change. -/
inductive Part
  | control | counters | port | detector | former | assembler | admission | span | line | sign | handler
  deriving DecidableEq, Repr

/-- A part is as it was. Of Station Control all but the FAULT output, and of the Closure and Sign
Controller all but the lamp commands, marks and timers and the long-hold timer: those follow
conditions and are derived at the end of every command (log 24). -/
def Part.same : Part → State → State → Prop
  | .control, s, t => t.control = { s.control with fault := t.control.fault }
  | .counters, s, t => t.counters = s.counters
  | .port, s, t => t.port = s.port
  | .detector, s, t => t.detector = s.detector
  | .former, s, t => t.former = s.former
  | .assembler, s, t => t.assembler = s.assembler
  | .admission, s, t => t.admission = s.admission
  | .span, s, t => t.span = s.span
  | .line, s, t => t.line = s.line
  | .sign, s, t => t.sign =
      { s.sign with
        longHoldTimer := t.sign.longHoldTimer
        divert := { t.sign.divert with current := s.sign.divert.current }
        closed := { t.sign.closed with current := s.sign.closed.current } }
  | .handler, s, t => t.handler = s.handler

/-- After a command that came `dt` ms after the one before, time has moved on by that, the queue is as
it was, and every part but those listed is as it was. -/
def Elsewhere (changed : List Part) (dt : Time) (s t : State) : Prop :=
  t.now = s.now + dt ∧ t.pending = s.pending ∧ ∀ p, p ∉ changed → p.same s t

/-- The vehicle of a claim has been finished with a diversion (05 R77), from a line state `line` in whose
transmit queue there was room: its ring copy has the outcome and the claim's last objection, its VERDICT
is the last frame queued, and the sign hold runs from the command's time (09 R149). -/
def DivertedClaim (c : Claim) (o : VehicleOutcome) (line : LineControl) (dt : Time) (s t : State) : Prop :=
  let hold := s.now + dt + BitVec.ofNat 32 (s.signHold * 1000)
  t.assembler = { s.assembler with history := s.assembler.history.map fun h =>
    if h.tag = c.vehicle.tag then { h with outcome := some o, lastObjection := c.lastObjection } else h }
  ∧ (∃ v, v.kind = .verdict
      ∧ v.bytes = frameBytes s.control.straps.number .verdict
          (verdictPayload { c.vehicle with outcome := some o, lastObjection := c.lastObjection })
      ∧ t.line = { line with txq := line.txq ++ [v] })
  ∧ Part.sign.same { s with sign := { s.sign with
      holdUntil := some ((s.sign.holdUntil.map fun h => later h hold).getD hold) } } t

/-- The time that a command says has passed since the one before it; a start sets station time to 0
instead (log 1). -/
def elapsed : Instr → Time
  | .powerOn _ => 0
  | .restart _ => 0
  | .selfTest dt _ => dt
  | .sampleFrame dt _ => dt
  | .sampleByteTimeout dt _ => dt
  | .headLostTimer dt => dt
  | .sampleConsume dt => dt
  | .pulseRecordTake dt => dt
  | .weighing dt => dt
  | .acceptRecord dt => dt
  | .backoffExpiry dt _ => dt
  | .deadlineExpiry dt _ => dt
  | .entryExpiry dt _ _ => dt
  | .learningTimerExpiry dt => dt
  | .lineIdle dt => dt
  | .receiveFramingError dt _ _ => dt
  | .frameStart dt _ => dt
  | .noEchoFault dt => dt
  | .arbitrationLoss dt _ => dt
  | .bitError dt _ => dt
  | .endOfData dt _ => dt
  | .endOfFrame dt _ => dt
  | .holdTaken dt => dt
  | .lineRecessiveNotice dt => dt
  | .isolationTimerExpiry dt => dt
  | .closeInEdge dt _ => dt
  | .closeInDebounced dt => dt
  | .reopenTimerExpiry dt => dt
  | .longHoldTimer dt => dt
  | .holdUntilReached dt => dt
  | .lampFeedbackChange dt _ _ => dt
  | .lampDisagreementExpiry dt _ => dt
  | .headWaitLimit dt => dt
  | .calibrationLoadBegin dt => dt
  | .calibrationRetry dt => dt
  | .calibrationLoadEnd dt _ => dt
  | .calMemoryTimeout dt => dt
  | .statusPage dt => dt
  | .sense dt => dt
  | .reload dt => dt
  | .readVehicle dt => dt
  | .clearCounters dt => dt
  | .sosReceived dt _ => dt
  | .responseSeen dt _ => dt

/-- POWER_ON or RESTART, the two commands that begin a start. -/
def IsStart (c : Instr) : Prop := (∃ pins, c = .powerOn pins) ∨ ∃ pins, c = .restart pins

/-- The command answers a next state, and this holds of it. -/
def Completes (c : Instr) (s : State) (p : State → Prop) : Prop := ∃ t, exec c s = .next t ∧ p t

end Sys2Proof.Machine
end

