-- ==== Sys2Proof/Certificates/Slice0/Obligations.lean ====
section
/-! DEFINITION. The statements for the provers, in the order of the chapters. Station time after a command is written s.now + dt. -/

open Sys2Proof Sys2Proof.Machine

/-! ## The block as a whole -/

/-- The front command of the queue is run with the rest of the queue. -/
def Obligations.StepRunsTheFrontCommand : Prop :=
  ∀ (s : State) (c : Instr) (rest : List Instr), s.pending = c :: rest →
    step s = exec c { s with pending := rest }

/-- No command touches the queue. Station time is 0 after a POWER_ON and after a RESTART that is due
(R152, R163, log 8), has not moved after a RESTART that is not due (log 3), and has moved on by the
command's own time after any other (R1, log 1). -/
def Obligations.TimeAndQueueUnderEveryCommand : Prop :=
  ∀ (c : Instr) (s t : State), exec c s = .next t →
    t.pending = s.pending
      ∧ (∀ pins, c = .powerOn pins → t.now = 0)
      ∧ (∀ pins, c = .restart pins → s.handler.due = some .restart → t.now = 0)
      ∧ (∀ pins, c = .restart pins → s.handler.due ≠ some .restart → t.now = s.now)
      ∧ (¬ IsStart c → t.now = s.now + elapsed c)

/-- After every command, whatever the state before it, the lamp commands and FAULT are those that R148
and R166 derive from the conditions (that they follow at the end of each command is log 24). -/
def Obligations.OutputsFollowConditions : Prop :=
  ∀ (c : Instr) (s t : State), exec c s = .next t → t.OutputsFollow

/-- FAILED is left only by a start (R155): any other command leaves the mode FAILED and begins no load. -/
def Obligations.OnlyAStartLeavesFailed : Prop :=
  ∀ (c : Instr) (s t : State), ¬ IsStart c → exec c s = .next t →
    s.control.mode = .failed → s.control.load = none →
    t.control.mode = .failed ∧ t.control.load = none

/-- Straps change only at a start (R153), the calibration only there and at a load's end (R159). -/
def Obligations.StrapsAndCalibrationChangeOnlyWhereStated : Prop :=
  ∀ (c : Instr) (s t : State), ¬ IsStart c → exec c s = .next t →
    t.control.straps = s.control.straps
      ∧ ((∀ dt record, c ≠ .calibrationLoadEnd dt record) → (∀ dt, c ≠ .calMemoryTimeout dt) →
          t.control.calibration = s.control.calibration)

/-- No command but POWER_ON and CLEAR_COUNTERS lowers a counter of STATUS pages 1 to 4 (R1, R163,
R165): a saturating counter does not wrap. -/
def Obligations.CountersFallOnlyWhereCleared : Prop :=
  ∀ (c : Instr) (s t : State), (∀ pins, c ≠ .powerOn pins) → (∀ dt, c ≠ .clearCounters dt) →
    exec c s = .next t →
    s.counters.framesSent ≤ t.counters.framesSent
      ∧ s.counters.arbitrationLosses ≤ t.counters.arbitrationLosses
      ∧ s.counters.bitErrors ≤ t.counters.bitErrors
      ∧ s.counters.noEchoFaults ≤ t.counters.noEchoFaults
      ∧ s.counters.crcErrors ≤ t.counters.crcErrors
      ∧ s.counters.formatErrors ≤ t.counters.formatErrors
      ∧ s.counters.framingErrors ≤ t.counters.framingErrors
      ∧ s.counters.holdEvents ≤ t.counters.holdEvents
      ∧ s.counters.claimsOffered ≤ t.counters.claimsOffered
      ∧ s.counters.claimsGranted ≤ t.counters.claimsGranted
      ∧ s.counters.objectionsSent ≤ t.counters.objectionsSent
      ∧ s.counters.unknownDepartures ≤ t.counters.unknownDepartures
      ∧ s.counters.sampleCrcErrors ≤ t.counters.sampleCrcErrors
      ∧ s.counters.sampleGaps ≤ t.counters.sampleGaps
      ∧ s.counters.vehiclesClosed ≤ t.counters.vehiclesClosed
      ∧ s.counters.txDrops ≤ t.counters.txDrops

/-- An entry joins the view only at the end of a frame (R91, R96): after any other command every entry
held was held before, under the same key, with the same load, admission and expiry. -/
def Obligations.ViewGrowsOnlyAtEndOfFrame : Prop :=
  ∀ (c : Instr) (s t : State), (∀ dt levels, c ≠ .endOfFrame dt levels) → exec c s = .next t →
    ∀ e ∈ t.span.entries, ∃ e' ∈ s.span.entries, e = { e' with departing := e.departing }

/-- Right after reset each of the four invariants that a statement of this file says every step keeps holds:
capacities, the view, closure, and the transmit queue ordered by kind code (R135). So do the outputs that
OutputsFollowConditions says every command leaves. -/
def Obligations.ResetMeetsEveryInvariant : Prop :=
  State.reset.WithinCapacity ∧ State.reset.ViewSound ∧ State.reset.ClosureSound
    ∧ State.reset.line.txq.Pairwise (fun a b => a.kind.code ≤ b.kind.code)
    ∧ State.reset.OutputsFollow

/-- Every step keeps every collection within its capacity (00, section 7). -/
def Obligations.EveryStepKeepsCapacities : Prop :=
  ∀ s t : State, s.WithinCapacity → step s = .next t → t.WithinCapacity

/-- Every step keeps the Span Table sound: distinct keys (R91), a running sum and a count that are those
of its entries (R93), and nothing in it while FAILED (R109). -/
def Obligations.EveryStepKeepsTheViewSound : Prop :=
  ∀ s t : State, s.ViewSound → step s = .next t → t.ViewSound

/-- Every step keeps the claim queue empty while closure is not OPEN (R89), and the HOLD demand clear
while FAILED (R144). -/
def Obligations.EveryStepKeepsClosureSound : Prop :=
  ∀ s t : State, s.ClosureSound → step s = .next t → t.ClosureSound

/-! ## Sample Port and Pulse Detector (01) -/

/-- SAMPLE_FRAME: a good frame with a sequence difference d of 1 to 64 is accepted (R3 to R7): it takes
the last delivered index plus d and stands for d − 1 missing samples held at the hold values. -/
def Obligations.NormalAndGapFramesAreAccepted : Prop :=
  ∀ (s : State) (dt : Time) (bytes : List Byte) (f g : SampleFrame) (last : Index) (hold : Reading)
    (d : Nat),
    sampleFrameSane bytes → sampleFrameGood bytes → f = sampleFrameOf bytes →
    s.port.head = .ready → s.port.lastGood = some g → s.port.lastIndex = some last →
    s.port.hold = some hold → s.port.fifo.length < 16 →
    d = (f.sequence - g.sequence).toNat → 1 ≤ d → d ≤ 64 →
    Completes (.sampleFrame dt bytes) s fun t =>
      t.port =
        { s.port with
          fifo := s.port.fifo ++
            [⟨last + BitVec.ofNat 32 d, f.reading, d - 1, hold, EntryMark.plain⟩]
          lastGood := some f, hold := some f.reading, lastIndex := some (last + BitVec.ofNat 32 d)
          overrun := false, headTimer := some (s.now + dt + 100) }
      ∧ t.counters = { s.counters with sampleGaps := if d = 1 ∨ s.port.overrun = true
          then s.counters.sampleGaps else bump s.counters.sampleGaps }
      ∧ Elsewhere [.port, .counters] dt s t

/-- SAMPLE_FRAME and SAMPLE_BYTE_TIMEOUT: what is discarded. A bad frame and a partial frame are counted
once and empty the ready run of an ABSENT head (R2, R9); a duplicate changes nothing (R3); a frame that
comes to a full FIFO is counted, sets OVERRUN and restarts the head-lost timer (R7). -/
def Obligations.DiscardedFrames : Prop :=
  (∀ (s : State) (dt : Time) (bytes : List Byte),
    sampleFrameSane bytes → ¬ sampleFrameGood bytes →
    Completes (.sampleFrame dt bytes) s fun t =>
      t.counters = { s.counters with sampleCrcErrors := bump s.counters.sampleCrcErrors }
      ∧ t.port = (if s.port.head = .absent then { s.port with runLength := 0, runLast := none } else s.port)
      ∧ Elsewhere [.port, .counters] dt s t)
  ∧ (∀ (s : State) (dt : Time) (part : List Byte), partialFrameSane part →
    Completes (.sampleByteTimeout dt part) s fun t =>
      t.counters = { s.counters with sampleCrcErrors := bump s.counters.sampleCrcErrors }
      ∧ t.port = (if s.port.head = .absent then { s.port with runLength := 0, runLast := none } else s.port)
      ∧ Elsewhere [.port, .counters] dt s t)
  ∧ (∀ (s : State) (dt : Time) (bytes : List Byte),
    sampleFrameSane bytes → sampleFrameGood bytes → s.port.head = .ready →
    s.port.lastGood = some (sampleFrameOf bytes) →
    Completes (.sampleFrame dt bytes) s fun t => Elsewhere [] dt s t)
  ∧ (∀ (s : State) (dt : Time) (bytes : List Byte),
    sampleFrameSane bytes → sampleFrameGood bytes → s.port.head = .ready →
    s.port.lastGood ≠ some (sampleFrameOf bytes) → s.port.fifo.length = 16 →
    Completes (.sampleFrame dt bytes) s fun t =>
      t.counters = { s.counters with sampleGaps := bump s.counters.sampleGaps }
      ∧ t.port = { s.port with overrun := true, headTimer := some (s.now + dt + 100) }
      ∧ Elsewhere [.port, .counters] dt s t)

/-- The index of a resync frame is the smallest that is greater than the last delivered index plus 64
and whose low 16 bits equal the frame's sequence number (R4), counting upwards from the last index;
where nothing has been delivered since the start it is the sequence number itself. -/
def Obligations.ResyncIndexIsTheSmallestBeyondTheGap : Prop :=
  (∀ (last : Index) (sequence : BitVec 16),
    (resyncIndex (some last) sequence).setWidth 16 = sequence
      ∧ 65 ≤ (resyncIndex (some last) sequence - last).toNat
      ∧ ∀ x : Index, x.setWidth 16 = sequence → 65 ≤ (x - last).toNat →
          (resyncIndex (some last) sequence - last).toNat ≤ (x - last).toNat)
  ∧ ∀ sequence : BitVec 16, resyncIndex none sequence = sequence.setWidth 32

/-- SAMPLE_FRAME: a good frame that is neither next, nor a gap of up to 63, nor a duplicate is a resync
(R3, R4, R6): it is accepted under its resync index with the resync mark, and the break is counted
unless an overrun has counted it. While the head is ABSENT a good frame builds the ready run (R9): one
more where the sequence goes on, afresh where it does not, unchanged by a duplicate. At 4 096 frames
the head is READY and the frame is the seed entry; HEAD leaves the mask, and a head wait ends with the
calibration step next (R156, log 36). -/
def Obligations.ResyncAndReadyRunFramesAreAccepted : Prop :=
  ∀ (s : State) (dt : Time) (bytes : List Byte) (f : SampleFrame),
    sampleFrameSane bytes → sampleFrameGood bytes → f = sampleFrameOf bytes →
    let index := resyncIndex s.port.lastIndex f.sequence
    (s.port.head = .ready → s.port.fifo.length < 16 →
      (∀ g, s.port.lastGood = some g → f ≠ g ∧ ((f.sequence - g.sequence).toNat = 0
        ∨ 64 < (f.sequence - g.sequence).toNat)) →
      Completes (.sampleFrame dt bytes) s fun t =>
        t.port =
          { s.port with
            fifo := s.port.fifo ++
              [⟨index, f.reading, 0, s.port.hold.getD f.reading, EntryMark.resync⟩]
            lastGood := some f, hold := some f.reading, lastIndex := some index
            overrun := false, headTimer := some (s.now + dt + 100) }
        ∧ t.counters = { s.counters with sampleGaps := if s.port.overrun = true
            then s.counters.sampleGaps else bump s.counters.sampleGaps }
        ∧ Elsewhere [.port, .counters] dt s t)
    ∧ (∀ n : Nat, s.port.head = .absent → s.port.runLast ≠ some f →
      n = (match s.port.runLast with
        | some g => if f.sequence = g.sequence + 1 then s.port.runLength + 1 else 1
        | none => 1) →
      (n < 4096 →
        Completes (.sampleFrame dt bytes) s fun t =>
          t.port = { s.port with runLength := n, runLast := some f } ∧ Elsewhere [.port] dt s t)
      ∧ (4096 ≤ n →
        Completes (.sampleFrame dt bytes) s fun t =>
          t.port =
            { s.port with
              head := .ready, lastGood := some f, hold := some f.reading, lastIndex := some index
              fifo := s.port.fifo ++ [⟨index, f.reading, 0, f.reading, EntryMark.seed⟩]
              runLength := 0, runLast := none, headTimer := some (s.now + dt + 100) }
          ∧ Part.control.same
              { s with control := { s.control with
                  mask := { s.control.mask with head := false }
                  startStep := if s.control.startStep = .headWait then .calibration
                    else s.control.startStep } } t
          ∧ Elsewhere [.port, .control] dt s t))
    ∧ (s.port.head = .absent → s.port.runLast = some f →
      Completes (.sampleFrame dt bytes) s fun t => Elsewhere [] dt s t)

/-- HEAD_LOST_TIMER with no vehicle open: the head becomes ABSENT, the FIFO, the detector, the former and
presence are cleared (R10, R16, R36, R39). HEAD_LOST becomes the pending sense record or, where one pends,
is counted as lost (R166). A start in its calibration step is back in the head wait, before the head-wait
limit (R156; that a load in flight does not keep it from that is log 36). The station is no longer
coordinated (R90): its only claim, if its frame is not in flight and it has no late mark, leaves with its
frame, and its vehicle is finished as DIVERT_UNCOORDINATED, with a VERDICT and the sign hold (R77, R149); a
claim whose frame is in flight stays. -/
def Obligations.HeadLostClearsTheMeasurement : Prop :=
  ∀ (s : State) (dt finish : Time),
    s.port.head = .ready → s.port.headTimer = some finish → reached (s.now + dt) finish →
    s.assembler.vehicle = none →
    let limit : Time := if s.control.restarted = true then 5000 else 40000
    let measurement := { s.assembler with
      current := none, runStart := none, presence := false, afterBreak := true }
    let cleared := fun t : State =>
      t.port = { s.port with head := .absent, fifo := [], overrun := false, headTimer := none,
                             runLength := 0, runLast := none }
      ∧ t.detector.queue = [] ∧ t.detector.settled = none
      ∧ t.detector.dropA = false ∧ t.detector.dropB = false
      ∧ (∀ c ∈ [t.detector.al, t.detector.ar, t.detector.bl, t.detector.br], c.mode = .unseeded)
      ∧ t.former = { openA := none, openB := none, waitingB := [], pendingA := [], lastDn := none }
      ∧ t.control = { s.control with
          fault := true
          sense := some (s.control.sense.getD ⟨.headLost, 0, none, s.now + dt⟩)
          lostSense := if s.control.sense = none then s.control.lostSense else bump s.control.lostSense
          startStep := if s.control.startStep = .calibration ∧ reached (s.now + dt) limit = false
            then .headWait else s.control.startStep }
    ((∀ c ∈ s.admission.claims, c.state = .offeredInFlight) →
      Completes (.headLostTimer dt) s fun t =>
        cleared t ∧ t.assembler = measurement
        ∧ Elsewhere [.control, .port, .detector, .former, .assembler] dt s t)
    ∧ (∀ c : Claim, s.admission.claims = [c] → c.state ≠ .offeredInFlight → c.lateMark = none →
      s.line.txq.length < 8 →
      Completes (.headLostTimer dt) s fun t =>
        let hold := s.now + dt + BitVec.ofNat 32 (s.signHold * 1000)
        cleared t ∧ t.admission = { s.admission with claims := [] }
        ∧ t.assembler = { measurement with history := s.assembler.history.map fun h =>
            if h.tag = c.vehicle.tag
            then { h with outcome := some .divertUncoordinated, lastObjection := c.lastObjection } else h }
        ∧ (∃ v, v.kind = .verdict
            ∧ v.bytes = frameBytes s.control.straps.number .verdict (verdictPayload
                { c.vehicle with outcome := some .divertUncoordinated, lastObjection := c.lastObjection })
            ∧ t.line = { s.line with txq :=
                (if c.state = .offeredQueued then s.line.txq.filter (fun g => g.kind ≠ .claim)
                 else s.line.txq) ++ [v] })
        ∧ Part.sign.same { s with sign := { s.sign with
            holdUntil := some ((s.sign.holdUntil.map fun h => later h hold).getD hold) } } t
        ∧ Elsewhere [.control, .port, .detector, .former, .assembler, .admission, .line, .sign] dt s t)

/-- SAMPLE_CONSUME: a plain entry without gaps, at rest on all four channels, is taken from the FIFO's
head; every baseline sum moves by the sample's difference from the baseline (R8, R12), no pulse begins,
the settled index is the sample's (R18), and the Assembler has the sample with its stamp (R39). With no
vehicle open and the former empty the counters and the former are as they were, the run start moves only
at a first sample or a change of presence (R39), and a presence rise opens a vehicle, which carries GAP
at the first sample after a discontinuity (R40); without a rise none opens. -/
def Obligations.RestingSampleIsConsumed : Prop :=
  ∀ (s : State) (dt : Time) (e : FifoEntry) (rest : List FifoEntry) (al ar bl br : Int),
    s.port.fifo = e :: rest → e.mark = .plain → e.gaps = 0 →
    s.detector.al = { sum := al, mode := .tracking } → s.detector.ar = { sum := ar, mode := .tracking } →
    s.detector.bl = { sum := bl, mode := .tracking } → s.detector.br = { sum := br, mode := .tracking } →
    e.reading.al.toInt - al / 64 < s.tOn → e.reading.ar.toInt - ar / 64 < s.tOn →
    e.reading.bl.toInt - bl / 64 < s.tOn → e.reading.br.toInt - br / 64 < s.tOn →
    Completes (.sampleConsume dt) s fun t =>
      t.port = { s.port with fifo := rest }
      ∧ t.detector =
          { s.detector with
            al := { sum := al + (e.reading.al.toInt - al / 64), mode := .tracking }
            ar := { sum := ar + (e.reading.ar.toInt - ar / 64), mode := .tracking }
            bl := { sum := bl + (e.reading.bl.toInt - bl / 64), mode := .tracking }
            br := { sum := br + (e.reading.br.toInt - br / 64), mode := .tracking }
            settled := some e.index }
      ∧ t.assembler.current = some { index := e.index, stamp := s.now + dt }
      ∧ t.assembler.presence = e.reading.presence
      ∧ (s.assembler.vehicle = none → s.former.openA = none → s.former.openB = none →
          s.former.waitingB = [] → s.former.pendingA = [] →
          0 < s.stuckSamples → s.stuckSamples < 2147483648 →
          t.counters = s.counters ∧ t.former = s.former
          ∧ t.assembler = { s.assembler with
              current := some { index := e.index, stamp := s.now + dt }
              presence := e.reading.presence, afterBreak := false
              runStart := if s.assembler.current = none ∨ s.assembler.presence ≠ e.reading.presence
                then some e.index else s.assembler.runStart
              vehicle := if e.reading.presence = true ∧ s.assembler.presence = false
                then some { axles := [], opening := e.index, presenceSeen := true, stallMark := false,
                            carriedGap := s.assembler.afterBreak, carriedSplit := false, lastJoin := none }
                else none })
      ∧ Elsewhere [.counters, .port, .detector, .former, .assembler] dt s t

/-- SAMPLE_CONSUME of entries with gaps and marks, with no vehicle open, the former empty and no presence
rise. Missing samples are applied before the entry's own, at the hold values, and give GAP to the pulse
they fall in (R5, R8, R13). A seed entry puts every channel in TRACKING at its own sample (R9, R11). A
resync entry is a discontinuity first: no pulse, record, mark or row-axle is left, and presence starts
from clear, so that a presence already set opens a vehicle with GAP (R6, R16, R36, R39, R40). -/
def Obligations.GapsAndMarksAreConsumed : Prop :=
  ∀ (s : State) (dt : Time) (e : FifoEntry) (rest : List FifoEntry),
    s.port.fifo = e :: rest → s.assembler.vehicle = none → 0 < s.tOn →
    0 < s.stuckSamples → s.stuckSamples < 2147483648 →
    (∃ dn, s.former = { openA := none, openB := none, waitingB := [], pendingA := [], lastDn := dn }) →
    let now := s.now + dt
    let channel := fun x : Sample => ({ sum := 64 * x.toInt, mode := .tracking } : ChannelState)
    (∀ (p : PulseInProgress) (al ar bl br : Int) (h d : Nat),
      e.mark = .plain → s.assembler.current ≠ none →
      e.hold.presence = s.assembler.presence → e.reading.presence = s.assembler.presence →
      s.detector.al = { sum := al, mode := .pulse p } → s.detector.ar = { sum := ar, mode := .tracking } →
      s.detector.bl = { sum := bl, mode := .tracking } → s.detector.br = { sum := br, mode := .tracking } →
      e.hold.al.toInt - al / 64 = h → e.reading.al.toInt - al / 64 = d → s.tOff ≤ h → s.tOff ≤ d →
      p.length + e.gaps + 1 < 2048 →
      e.hold.ar.toInt = ar / 64 → e.hold.bl.toInt = bl / 64 → e.hold.br.toInt = br / 64 →
      e.reading.ar.toInt - ar / 64 < s.tOn → e.reading.bl.toInt - bl / 64 < s.tOn →
      e.reading.br.toInt - br / 64 < s.tOn →
      Completes (.sampleConsume dt) s fun t =>
        t.port = { s.port with fifo := rest }
        ∧ t.detector =
            { s.detector with
              al := { sum := al, mode := .pulse { p with
                area := p.area + e.gaps * h + d
                peak := max (if e.gaps = 0 then p.peak else max p.peak h) d
                length := p.length + e.gaps + 1, gap := p.gap || decide (0 < e.gaps) } }
              ar := { sum := ar + (e.reading.ar.toInt - ar / 64), mode := .tracking }
              bl := { sum := bl + (e.reading.bl.toInt - bl / 64), mode := .tracking }
              br := { sum := br + (e.reading.br.toInt - br / 64), mode := .tracking }
              settled := some (p.onset - 1) }
        ∧ t.assembler = { s.assembler with
            current := some { index := e.index, stamp := now }, afterBreak := false }
        ∧ Elsewhere [.port, .detector, .assembler] dt s t)
    ∧ (e.mark = .seed → e.gaps = 0 → (e.reading.presence = true → s.assembler.presence = true) →
      Completes (.sampleConsume dt) s fun t =>
        t.port = { s.port with fifo := rest }
        ∧ t.detector = { s.detector with
            al := channel e.reading.al, ar := channel e.reading.ar, bl := channel e.reading.bl
            br := channel e.reading.br, settled := some e.index }
        ∧ t.assembler = { s.assembler with
            current := some { index := e.index, stamp := now }
            presence := e.reading.presence, afterBreak := false
            runStart := if s.assembler.current = none ∨ s.assembler.presence ≠ e.reading.presence
              then some e.index else s.assembler.runStart }
        ∧ Elsewhere [.port, .detector, .assembler] dt s t)
    ∧ (e.mark = .resync → e.gaps = 0 →
      Completes (.sampleConsume dt) s fun t =>
        t.port = { s.port with fifo := rest }
        ∧ t.detector =
            { al := channel e.reading.al, ar := channel e.reading.ar, bl := channel e.reading.bl
              br := channel e.reading.br, queue := [], dropA := false, dropB := false
              settled := some e.index }
        ∧ t.former = { openA := none, openB := none, waitingB := [], pendingA := [], lastDn := none }
        ∧ t.assembler = { s.assembler with
            current := some { index := e.index, stamp := now }
            presence := e.reading.presence, runStart := some e.index, afterBreak := false
            vehicle := if e.reading.presence = true
              then some { axles := [], opening := e.index, presenceSeen := true, stallMark := false,
                          carriedGap := true, carriedSplit := false, lastJoin := none }
              else none }
        ∧ Elsewhere [.port, .detector, .former, .assembler] dt s t)

/-- The samples of a pulse: their differences from the frozen baseline are summed, their largest is the
peak, and the first sample below T_off ends the pulse and is tracked (R13, R14). A pulse that would reach
2 048 samples is abandoned: the channel is STUCK with its baseline frozen (R15), until a sample below
T_off re-seeds the baseline from itself. SAMPLE_CONSUME of a sample that ends a pulse on AL and one on BL,
with no vehicle open and the former empty: their records join the pulse queue in channel order, each with
the settled index last published as its note (R22) and with GAP where its row's drop mark is set, which
clears the mark; a record that finds 32 records is dropped and sets its row's mark (R14, R17). -/
def Obligations.PulsesEndInARecordOrStuck : Prop :=
  (∀ (tOn tOff : Nat) (sum : Int) (x : SampleContext) (ds : List Nat) (d : Nat) (last : Int),
      0 < tOff → tOff < tOn → tOn ≤ d → (∀ n ∈ ds, tOff ≤ n) → ds.length + 1 < 2048 →
      last - sum / 64 < tOff →
      let c : ChannelState := { sum, mode := .tracking }
      let c := (d :: ds).foldl (fun c n => (c.take tOn tOff x (sum / 64 + n)).1) c
      c.take tOn tOff x last =
        ({ sum := sum + (last - sum / 64), mode := .tracking },
         some { onset := x.index, stamp := x.stamp, temperature := x.temperature,
                area := (d :: ds).sum, peak := (d :: ds).foldl max 0, length := ds.length + 1,
                gap := x.isGap || x.rowDrop }))
  ∧ (∀ (tOn tOff : Nat) (sum : Int) (x : SampleContext) (ds : List Nat) (d : Nat) (last : Int),
      0 < tOff → tOff < tOn → tOn ≤ d → (∀ n ∈ ds, tOff ≤ n) → 2047 ≤ ds.length →
      last - sum / 64 < tOff →
      let c : ChannelState := { sum, mode := .tracking }
      let c := (d :: ds).foldl (fun c n => (c.take tOn tOff x (sum / 64 + n)).1) c
      c = { sum, mode := .stuck }
        ∧ c.take tOn tOff x last = ({ sum := 64 * last, mode := .tracking }, none))
  ∧ (∀ (s : State) (dt : Time) (e : FifoEntry) (rest : List FifoEntry) (p q : PulseInProgress)
      (al ar bl br : Int),
      s.port.fifo = e :: rest → e.mark = .plain → e.gaps = 0 →
      e.reading.presence = s.assembler.presence → s.assembler.current ≠ none → s.assembler.vehicle = none →
      (∃ dn, s.former = { openA := none, openB := none, waitingB := [], pendingA := [], lastDn := dn }) →
      0 < s.stuckSamples → s.stuckSamples < 2147483648 →
      s.detector.al = { sum := al, mode := .pulse p } → s.detector.ar = { sum := ar, mode := .tracking } →
      s.detector.bl = { sum := bl, mode := .pulse q } → s.detector.br = { sum := br, mode := .tracking } →
      e.reading.al.toInt - al / 64 < s.tOff → e.reading.bl.toInt - bl / 64 < s.tOff →
      e.reading.ar.toInt - ar / 64 < s.tOn → e.reading.br.toInt - br / 64 < s.tOn →
      let queued := fun (channel : Channel) (p : PulseInProgress) (mark : Bool) =>
        ({ record := { channel, onset := p.onset, stamp := p.stamp, temperature := p.temperature,
                       area := p.area, peak := p.peak, gap := p.gap || mark }
           note := s.detector.settled } : QueuedPulse)
      let onA := queued .al p s.detector.dropA
      let onB := queued .bl q s.detector.dropB
      Completes (.sampleConsume dt) s fun t =>
        t.port = { s.port with fifo := rest }
        ∧ t.detector =
            { s.detector with
              al := { sum := al + (e.reading.al.toInt - al / 64), mode := .tracking }
              ar := { sum := ar + (e.reading.ar.toInt - ar / 64), mode := .tracking }
              bl := { sum := bl + (e.reading.bl.toInt - bl / 64), mode := .tracking }
              br := { sum := br + (e.reading.br.toInt - br / 64), mode := .tracking }
              settled := some e.index, queue := t.detector.queue
              dropA := decide (32 ≤ s.detector.queue.length)
              dropB := decide (31 ≤ s.detector.queue.length) }
        ∧ (s.detector.queue.length ≤ 30 → t.detector.queue = s.detector.queue ++ [onA, onB])
        ∧ (s.detector.queue.length = 31 → t.detector.queue = s.detector.queue ++ [onA])
        ∧ (32 ≤ s.detector.queue.length → t.detector.queue = s.detector.queue)
        ∧ t.assembler = { s.assembler with
            current := some { index := e.index, stamp := s.now + dt }, afterBreak := false }
        ∧ Elsewhere [.port, .detector, .assembler] dt s t)

/-! ## Axle Former and Vehicle Assembler (02, 03) -/

/-- PULSE_RECORD_TAKE while the former is not held. Into an empty former a record opens its row's
row-axle, of its own side (R22, R24); the second side of an open row-A row-axle, inside the window,
completes it into the pending list (R24 to R26). The horizon after the taking reaches nothing. -/
def Obligations.PulseRecordsFormRowAxles : Prop :=
  (∀ (s : State) (dt : Time) (q : QueuedPulse) (rest : List QueuedPulse) (dn : Option Nat),
    s.control.load = none → s.assembler.closedQueue.length < 4 → s.detector.queue = q :: rest →
    s.former = { openA := none, openB := none, waitingB := [], pendingA := [], lastDn := dn } →
    (∀ h, ({ s with detector := { s.detector with queue := rest } } : State).horizon = some h →
      ¬ reached h (q.record.onset + BitVec.ofNat 32 s.window)) →
    Completes (.pulseRecordTake dt) s fun t =>
      t.detector = { s.detector with queue := rest }
      ∧ t.former.waitingB = [] ∧ t.former.pendingA = [] ∧ t.former.lastDn = dn
      ∧ (let r := q.record
         let left := some r.area
         match r.channel with
         | .al => t.former.openA = some ⟨.a, r.onset, r.stamp, r.temperature, left, none, r.gap⟩
             ∧ t.former.openB = none
         | .ar => t.former.openA = some ⟨.a, r.onset, r.stamp, r.temperature, none, left, r.gap⟩
             ∧ t.former.openB = none
         | .bl => t.former.openB = some ⟨.b, r.onset, r.stamp, r.temperature, left, none, r.gap⟩
             ∧ t.former.openA = none
         | .br => t.former.openB = some ⟨.b, r.onset, r.stamp, r.temperature, none, left, r.gap⟩
             ∧ t.former.openA = none)
      ∧ Elsewhere [.detector, .former] dt s t)
  ∧ (∀ (s : State) (dt : Time) (q : QueuedPulse) (rest : List QueuedPulse) (dn : Option Nat) (x : RowAxle),
    s.control.load = none → s.assembler.closedQueue.length < 4 → s.detector.queue = q :: rest →
    s.former = { openA := some x, openB := none, waitingB := [], pendingA := [], lastDn := dn } →
    q.record.channel = .ar → x.left.isSome → x.right = none →
    0 ≤ modDiff q.record.onset x.first → modDiff q.record.onset x.first ≤ s.window →
    (∀ h, ({ s with detector := { s.detector with queue := rest } } : State).horizon = some h →
      ¬ reached h (x.first + BitVec.ofNat 32 s.dnMax + BitVec.ofNat 32 s.window)) →
    Completes (.pulseRecordTake dt) s fun t =>
      t.detector = { s.detector with queue := rest }
      ∧ t.former = { openA := none, openB := none, waitingB := [], lastDn := dn,
                     pendingA := [{ x with right := some q.record.area, gap := x.gap || q.record.gap }] }
      ∧ Elsewhere [.detector, .former] dt s t)

/-- The speed of a paired axle (R29), for a row spacing of at most 6 000 mm and a Δn within its limits:
it is the rounded quotient, no product in it exceeds its bound, Δn is at least 1, and the speed lies
within v_min and v_max. With the built-in defaults the extremes are 41 654 and 1 389 mm/s. -/
def Obligations.PairedSpeedLiesWithinThePairingSpeeds : Prop :=
  (∀ (rowSpacing vMin vMax dn : Nat) (a b : RowAxle),
    1 ≤ rowSpacing → rowSpacing ≤ 6000 → 1 ≤ vMin → vMin ≤ vMax →
    deltaMin rowSpacing vMax ≤ dn → dn ≤ deltaMax rowSpacing vMin →
    rowSpacing * 4096 ≤ 24576000 ∧ 1 ≤ deltaMin rowSpacing vMax
      ∧ ∃ v, (pairedAxle rowSpacing a b dn).speed = some v
          ∧ v = (2 * rowSpacing * 4096 + dn) / (2 * dn) ∧ vMin ≤ v ∧ v ≤ vMax)
  ∧ (2 * 3000 * 4096 + 295) / (2 * 295) = 41654 ∧ (2 * 3000 * 4096 + 8846) / (2 * 8846) = 1389
  ∧ deltaMin 3000 41667 = 295 ∧ deltaMax 3000 1389 = 8846

/-- A row-B row-axle is paired with the oldest pending entry whose Δn lies within the limits (R28): that
entry alone leaves the list, the last paired Δn is its Δn, and the paired axle joins the open list. -/
def Obligations.PairingTakesTheOldestPartner : Prop :=
  ∀ (s : State) (v : OpenVehicle) (b a : RowAxle) (before after : List RowAxle),
    s.assembler.vehicle = some v → v.axles.length < 24 →
    s.former.pendingA = before ++ a :: after →
    (∀ p ∈ before, ¬ ((s.dnMin : Int) ≤ modDiff b.first p.first ∧ modDiff b.first p.first ≤ s.dnMax)) →
    (s.dnMin : Int) ≤ modDiff b.first a.first → modDiff b.first a.first ≤ s.dnMax →
    (s.pairRowB b).former.pendingA = before ++ after
      ∧ (s.pairRowB b).former.lastDn = some (modDiff b.first a.first).toNat
      ∧ ∃ v', (s.pairRowB b).assembler.vehicle = some v'
          ∧ v'.axles.length = v.axles.length + 1
          ∧ pairedAxle s.rowSpacing a b (modDiff b.first a.first).toNat ∈ v'.axles

/-- The pieces of a close are the open list cut exactly where a test spacing exceeds the maximum axle
spacing (R47). The tag that a record takes is the first, from the counter upwards, that the Span Table
does not hold under this station's number, and is found within 33 steps (R50). -/
def Obligations.PiecesAndTagsOfAClose : Prop :=
  (∀ (maxSpacing speed : Nat) (axles : List Axle),
    (piecesOf maxSpacing speed axles).flatten = axles
      ∧ (∀ p ∈ piecesOf maxSpacing speed axles, p ≠ []
          ∧ p.IsChain fun a b => spacingOf a.reference b.reference speed ≤ maxSpacing)
      ∧ (piecesOf maxSpacing speed axles).IsChain fun p q =>
          ∀ a ∈ p.getLast?, ∀ b ∈ q.head?, maxSpacing < spacingOf a.reference b.reference speed)
  ∧ ∀ (table : SpanTable) (own : StationNo) (counter : Tag), table.entries.length ≤ 32 →
      let tag := freeTag (table.holds own) 33 counter
      table.holds own tag = false
        ∧ (tag - counter).toNat ≤ 32
        ∧ ∀ k : Nat, k < (tag - counter).toNat → table.holds own (counter + BitVec.ofNat 12 k) = true

/-- A vehicle opens at an axle that finds none (R40, R41): SAMPLE_CONSUME of a resting sample, at whose
horizon the only pending row-A entry expires, issues it alone (R30, R31), and the axle is the first of a
vehicle opened at the current sample. A vehicle without axles leaves no record (R46): a resting sample
1 024 after its quiet start, with presence clear, ends it. -/
def Obligations.VehiclesOpenAtAnAxleAndVanishEmpty : Prop :=
  ∀ (s : State) (dt : Time) (e : FifoEntry) (rest : List FifoEntry) (dn : Option Nat),
    s.port.fifo = e :: rest → e.mark = .plain → e.gaps = 0 → e.reading.presence = false →
    s.assembler.presence = false → s.assembler.current ≠ none → s.detector.queue = [] →
    (∀ c : ChannelState × Sample, c ∈ [(s.detector.al, e.reading.al), (s.detector.ar, e.reading.ar),
        (s.detector.bl, e.reading.bl), (s.detector.br, e.reading.br)] →
      c.1.mode = .tracking ∧ c.2.toInt - c.1.sum / 64 < s.tOn) →
    let current : CurrentSample := { index := e.index, stamp := s.now + dt }
    (∀ a : RowAxle, s.assembler.vehicle = none → s.control.load = none →
      s.assembler.closedQueue.length < 4 →
      s.former = { openA := none, openB := none, waitingB := [], pendingA := [a], lastDn := dn } →
      reached e.index (a.first + BitVec.ofNat 32 s.dnMax + BitVec.ofNat 32 s.window) →
      Completes (.sampleConsume dt) s fun t =>
        t.former = { openA := none, openB := none, waitingB := [], pendingA := [], lastDn := dn }
        ∧ t.assembler = { s.assembler with
            current := some current, afterBreak := false
            vehicle := some
              { axles := [{ reference := a.first, stamp := a.stamp, temperature := a.temperature,
                            rowBStamp := none, speed := none, al := a.left, ar := a.right, bl := none,
                            br := none, singleRow := true, oneSided := a.left.isNone || a.right.isNone,
                            gap := a.gap, load := none, spacing := none }]
                opening := e.index, presenceSeen := false, stallMark := false, carriedGap := false
                carriedSplit := false, lastJoin := some e.index } }
        ∧ Elsewhere [.port, .detector, .former, .assembler] dt s t)
    ∧ (∀ v : OpenVehicle, s.assembler.vehicle = some v → v.axles = [] →
      s.former = { openA := none, openB := none, waitingB := [], pendingA := [], lastDn := dn } →
      reached e.index (s.assembler.quietStart v + 1024) →
      Completes (.sampleConsume dt) s fun t =>
        t.former = { openA := none, openB := none, waitingB := [], pendingA := [], lastDn := none }
        ∧ t.assembler = { s.assembler with
            current := some current, afterBreak := false, vehicle := none }
        ∧ Elsewhere [.port, .detector, .former, .assembler] dt s t)

/-- The closes of a vehicle with axles (R42 to R51): by the quiet test, by the stall test with STALLED, by
a discontinuity with GAP (at HEAD_LOST_TIMER, whatever the former holds: that no quiet or stall test is made
on the report that its clearing makes empty is the model's choice, log 14), and by a 25th axle with SPLIT,
which opens the next vehicle with SPLIT. At each the open list is cut by R47; each piece is a record with the fields and flags of R48
and R49 and the next free tag of R50; the records join the outbound list, which fills the free places of
the closed-vehicle queue (R51); each is counted; and the last paired Δn is forgotten (R46). -/
def Obligations.VehiclesCloseIntoRecords : Prop :=
  ∀ (s : State) (dt : Time) (v : OpenVehicle), s.assembler.vehicle = some v → v.axles ≠ [] →
    let own := s.control.straps.number
    let pieces := piecesOf s.maxAxleSpacing (splitSpeed v.axles s.defaultSpeed) v.axles
    let closed := fun (stalled gap split : Bool) (t : State) =>
      ∃ tags : List Tag, tags.length = pieces.length
        ∧ (∀ (i : Nat) (tag : Tag), tags[i]? = some tag → tag = freeTag (s.span.holds own) 33
            (if i = 0 then s.assembler.tagCounter else tags.getD (i - 1) 0 + 1))
        ∧ t.assembler.tagCounter = tags.getLast?.getD 0 + 1
        ∧ (let records := List.zipWith (fun (tag : Tag) (p : List Axle) =>
            ({ origin := own, tag
               firstStamp := (p.head?.map Axle.stamp).getD (s.now + dt)
               firstRowB := earliest ((p.take 12).filterMap Axle.rowBStamp)
               speed := none, band := none, axleCount := min p.length 15, axles := p.take 12
               flags := { gap := p.any Axle.gap || v.carriedGap || gap
                          oneSided := p.any Axle.oneSided, singleRow := p.any Axle.singleRow
                          split := v.carriedSplit || split || decide (1 < pieces.length)
                          stalled := v.stallMark || stalled, axleOverflow := decide (12 < p.length)
                          saturated := false, tempOut := false }
               measuredGross := 0, assessedGross := 0, verdict := none, lightMark := false
               outcome := none, deadline := none, lastObjection := none
               closeTime := s.now + dt } : VehicleRecord)) tags pieces
          let made := s.assembler.outbound ++ records
          let free := 4 - s.assembler.closedQueue.length
          t.assembler.closedQueue = s.assembler.closedQueue ++ made.take free
            ∧ t.assembler.outbound = made.drop free
            ∧ t.counters = { s.counters with vehiclesClosed := t.counters.vehiclesClosed }
            ∧ t.counters.vehiclesClosed.toNat = min (s.counters.vehiclesClosed.toNat + pieces.length) 65535
            ∧ t.assembler.history = s.assembler.history)
    (∀ (e : FifoEntry) (rest : List FifoEntry) (dn : Option Nat),
      s.port.fifo = e :: rest → e.mark = .plain → e.gaps = 0 →
      e.reading.presence = s.assembler.presence → s.assembler.current ≠ none → s.detector.queue = [] →
      (∀ c : ChannelState × Sample, c ∈ [(s.detector.al, e.reading.al), (s.detector.ar, e.reading.ar),
          (s.detector.bl, e.reading.bl), (s.detector.br, e.reading.br)] →
        c.1.mode = .tracking ∧ c.2.toInt - c.1.sum / 64 < s.tOn) →
      let current : CurrentSample := { index := e.index, stamp := s.now + dt }
      (s.former = { openA := none, openB := none, waitingB := [], pendingA := [], lastDn := dn } →
        (s.assembler.presence = false → reached e.index (s.assembler.quietStart v + 1024) →
          Completes (.sampleConsume dt) s fun t =>
            closed false false false t ∧ t.assembler.vehicle = none ∧ t.former.lastDn = none
            ∧ t.assembler.current = some current
            ∧ Elsewhere [.counters, .port, .detector, .former, .assembler] dt s t)
        ∧ (∀ r, s.assembler.presence = true → s.assembler.runStart = some r →
          reached e.index (later r v.opening + BitVec.ofNat 32 s.stuckSamples) →
          Completes (.sampleConsume dt) s fun t =>
            closed true false false t ∧ t.assembler.vehicle = none ∧ t.former.lastDn = none
            ∧ t.assembler.current = some current
            ∧ Elsewhere [.counters, .port, .detector, .former, .assembler] dt s t))
      ∧ (∀ a : RowAxle, v.axles.length = 24 → v.stallMark = false → s.assembler.presence = false →
        s.control.load = none → s.assembler.closedQueue.length < 4 →
        s.former = { openA := none, openB := none, waitingB := [], pendingA := [a], lastDn := dn } →
        reached e.index (a.first + BitVec.ofNat 32 s.dnMax + BitVec.ofNat 32 s.window) →
        Completes (.sampleConsume dt) s fun t =>
          closed false false true t ∧ t.former.lastDn = none ∧ t.assembler.current = some current
          ∧ t.assembler.vehicle = some
              { axles := [{ reference := a.first, stamp := a.stamp, temperature := a.temperature,
                            rowBStamp := none, speed := none, al := a.left, ar := a.right, bl := none,
                            br := none, singleRow := true, oneSided := a.left.isNone || a.right.isNone,
                            gap := a.gap, load := none, spacing := none }]
                opening := e.index, presenceSeen := false, stallMark := false, carriedGap := false
                carriedSplit := true, lastJoin := some e.index }
          ∧ Elsewhere [.counters, .port, .detector, .former, .assembler] dt s t))
    ∧ (∀ finish, s.port.head = .ready → s.port.headTimer = some finish → reached (s.now + dt) finish →
      s.admission.claims = [] →
      Completes (.headLostTimer dt) s fun t =>
        closed false true false t ∧ t.former.lastDn = none
        ∧ t.assembler.vehicle = none ∧ t.assembler.current = none
        ∧ t.assembler.presence = false ∧ t.port.head = .absent
        ∧ Elsewhere [.control, .counters, .port, .detector, .former, .assembler] dt s t)

/-! ## Weigh Unit and Exit Matcher (04, 07) -/

/-- WEIGHING at an entry station (R53, R68): the head record leaves the closed-vehicle queue, which is
filled from the outbound list (R51), and waits for acceptance weighed: its assembled fields are kept, no
load exceeds 65 535, the assessed gross is no less than the measured gross, and a record without a
calibration or without a speed is UNWEIGHED with loads of 0 (R55, R66). -/
def Obligations.WeighingHandsTheRecordOn : Prop :=
  ∀ (s : State) (dt : Time) (r : VehicleRecord) (rest : List VehicleRecord),
    s.control.load = none → s.control.startStep = .done → s.admission.waiting = none →
    s.control.straps.role = .entry → s.assembler.closedQueue = r :: rest →
    Completes (.weighing dt) s fun t =>
      t.assembler = { s.assembler with
        closedQueue := rest ++ s.assembler.outbound.take (4 - rest.length)
        outbound := s.assembler.outbound.drop (4 - rest.length) }
      ∧ Elsewhere [.assembler, .admission] dt s t
      ∧ t.admission = { s.admission with waiting := some (s.weigh r) }
      ∧ ∃ w, t.admission = { s.admission with waiting := some w }
        ∧ w.origin = r.origin ∧ w.tag = r.tag ∧ w.firstStamp = r.firstStamp ∧ w.firstRowB = r.firstRowB
        ∧ w.axleCount = r.axleCount ∧ w.closeTime = r.closeTime ∧ w.outcome = r.outcome
        ∧ w.flags = { r.flags with saturated := w.flags.saturated, tempOut := w.flags.tempOut }
        ∧ w.axles.map (fun x => { x with load := none, spacing := none })
            = r.axles.map (fun x => { x with load := none, spacing := none })
        ∧ w.measuredGross ≤ w.assessedGross ∧ w.assessedGross ≤ 65535
        ∧ (∀ x ∈ w.axles, ∀ load, x.load = some load → load ≤ 65535)
        ∧ (∀ x ∈ w.axles, ∀ spacing, x.spacing = some spacing → spacing ≤ 65535)
        ∧ ((s.control.calibration = none ∨ w.speed = none) ↔ w.verdict = some .unweighed)
        ∧ (w.verdict = some .unweighed → w.measuredGross = 0 ∧ w.assessedGross = 0
            ∧ ∀ x ∈ w.axles, x.load = some 0)

/-- What a weighing computes (R56 to R67). The speed is the rounded mean of the paired axles' speeds held
within the pairing speeds; each spacing is the rounded distance from the axle before. Under a calibration
each estimate is area × speed × factor over scale × 2^14, each wheel the rounded-up mean of its rows, each
axle the sum of its wheels or twice the one, each clamped at 65 535; the gross is their sum; a load is
assessed with the normal tolerance, or with the degraded one for a degraded record, rounded up; and the
limits of R66 give the verdict. -/
def Obligations.WeighingComputesLoadsAndVerdict : Prop :=
  ∀ (s : State) (r : VehicleRecord),
    let w := s.weigh r
    let speeds := r.axles.filterMap Axle.speed
    let clamp := fun n : Nat => min n 65535
    w.speed = (if speeds = [] then none
        else some (min (max ((2 * speeds.sum + speeds.length) / (2 * speeds.length)) s.vMin) s.vMax))
      ∧ w.axles.length = r.axles.length
      ∧ (∀ x, w.axles[0]? = some x → x.spacing = none)
      ∧ (∀ i a b, r.axles[i]? = some a → r.axles[i + 1]? = some b →
          (w.axles[i + 1]?).bind Axle.spacing
            = some (spacingOf a.reference b.reference (w.speed.getD s.defaultSpeed)))
      ∧ w.flags.tempOut = (r.flags.tempOut
          || (r.axles.head?.map fun x => x.temperature.toInt == -128).getD true)
      ∧ (∀ (cal : Calibration) (v : Nat), s.control.calibration = some cal → w.speed = some v →
          let band := bandOf cal.lane.tempBounds ((r.axles.head?.map fun x => x.temperature.toInt).getD (-128))
          let loadOf := fun x : Axle =>
            let u := x.speed.getD v
            let f := factorAt u (cal.lane.nodes.zip (cal.lane.factors.getD (band - 1) []))
            let estimate := fun (scale area : Nat) =>
              clamp ((2 * (area * u * f) + scale * 16384) / (2 * (scale * 16384)))
            let wheel := fun (a b : Option Nat) => match a, b with
              | some m, some n => some ((m + n + 1) / 2)
              | some m, none => some m
              | none, n => n
            let left := wheel (x.al.map (estimate cal.lane.scaleAL)) (x.bl.map (estimate cal.lane.scaleBL))
            let right := wheel (x.ar.map (estimate cal.lane.scaleAR)) (x.br.map (estimate cal.lane.scaleBR))
            clamp (match left, right with
              | some m, some n => m + n
              | some m, none => 2 * m
              | none, some n => 2 * n
              | none, none => 0)
          let tolerance := if w.flags.degraded = true then cal.site.degradedTolerance
            else cal.site.normalTolerance
          let assessed := fun l : Nat => clamp ((l * (100 + tolerance) + 99) / 100)
          let exceeds := r.flags.axleOverflow = true
            ∨ (∃ x ∈ r.axles, cal.site.axleLimit < assessed (loadOf x)) ∨ cal.site.grossLimit < w.assessedGross
          w.band = some band
            ∧ w.axles.map Axle.load = r.axles.map (fun x => some (loadOf x))
            ∧ w.measuredGross = clamp (r.axles.map loadOf).sum
            ∧ w.assessedGross = assessed w.measuredGross
            ∧ w.lightMark = false
            ∧ (exceeds → w.verdict = some .overlimit)
            ∧ (¬ exceeds → cal.site.claimThreshold ≤ w.assessedGross → w.verdict = some .heavy)
            ∧ (¬ exceeds → w.assessedGross < cal.site.claimThreshold → w.verdict = some .light))
      ∧ ((s.control.calibration = none ∨ w.speed = none) →
          w.verdict = some .unweighed ∧ w.measuredGross = 0 ∧ w.assessedGross = 0
            ∧ (∀ x ∈ w.axles, x.load = some 0)
            ∧ (w.lightMark = true ↔ r.axleCount = 2 ∧ r.axles.length = 2
                ∧ ∃ d, (w.axles[1]?).bind Axle.spacing = some d ∧ d < s.lightWheelbase))

/-- WEIGHING at an exit station (R111 to R117). A record that is HEAVY or OVERLIMIT at or above the claim
threshold is matched to the oldest entry that meets the five conditions: that entry is marked and stays at
its full weight, a DEPART for it goes ahead of the VERDICT, and the outcome is EXIT_MATCHED. Where no entry
meets them, and for an UNWEIGHED record without the light mark, the outcome is EXIT_UNMATCHED, with a REPORT
UNMATCHED ahead of the VERDICT. A record below the threshold, and an UNWEIGHED one with the mark, is
EXIT_LIGHT. Each joins the history ring, and none hands a divert notice. -/
def Obligations.ExitMatchesTheOldestEntry : Prop :=
  ∀ (s : State) (dt : Time) (r : VehicleRecord) (rest : List VehicleRecord),
    s.control.load = none → s.control.startStep = .done → s.admission.waiting = none →
    s.control.straps.role = .exit → s.assembler.closedQueue = r :: rest → s.line.txq = [] →
    let w := s.weigh r
    let number := s.control.straps.number
    let qualifies := fun (cal : Calibration) (x : SpanEntry) =>
      x.entryEnd ≠ cal.lane.spanEnd ∧ x.departing = false ∧ x.axleCount = w.axleCount
        ∧ ((w.measuredGross : Int) - x.measuredGross).natAbs * 100 ≤ cal.site.matchTolerance * x.measuredGross
        ∧ (cal.site.minTransit * 100 : Int) ≤ modDiff w.firstStamp x.admission
    let searched := fun cal : Calibration => s.control.calibration = some cal
      ∧ (w.verdict = some .heavy ∨ w.verdict = some .overlimit)
      ∧ cal.site.claimThreshold ≤ w.assessedGross
    let finished := fun (t : State) (o : VehicleOutcome) (v : TxFrame) =>
      t.assembler = { s.assembler with
          closedQueue := rest ++ s.assembler.outbound.take (4 - rest.length)
          outbound := s.assembler.outbound.drop (4 - rest.length)
          history := pushHistory s.assembler.history { w with outcome := some o } }
        ∧ v.bytes = frameBytes number .verdict (verdictPayload { w with outcome := some o })
    (∀ (cal : Calibration) (before after : List SpanEntry) (e : SpanEntry), searched cal →
      s.span.entries = before ++ e :: after → (∀ x ∈ before, ¬ qualifies cal x) → qualifies cal e →
      e ∉ after →
      Completes (.weighing dt) s fun t =>
        t.span = { s.span with entries := before ++ { e with departing := true } :: after }
        ∧ (∃ d v, t.line = { s.line with txq := [d, v] } ∧ finished t .exitMatched v
            ∧ d.bytes = frameBytes number .depart (be16 (4096 * e.origin.toNat + e.tag.toNat) ++ [1]))
        ∧ Elsewhere [.assembler, .span, .line] dt s t)
    ∧ ((∃ cal, searched cal ∧ ∀ x ∈ s.span.entries, ¬ qualifies cal x)
        ∨ w.verdict = some .unweighed ∧ w.lightMark = false →
      Completes (.weighing dt) s fun t =>
        (∃ g v, t.line = { s.line with txq := [g, v] } ∧ finished t .exitUnmatched v
          ∧ g.bytes = frameBytes number .report
              (2 :: be16 (16 * w.tag.toNat + w.axleCount % 16) ++ be16 w.measuredGross
                ++ be16 w.assessedGross ++ [byteOf (speedKmh w.speed), w.flags.toByte]))
        ∧ Elsewhere [.assembler, .line] dt s t)
    ∧ ((∃ cal, s.control.calibration = some cal ∧ w.verdict ≠ some .unweighed
          ∧ w.assessedGross < cal.site.claimThreshold)
        ∨ w.verdict = some .unweighed ∧ w.lightMark = true →
      Completes (.weighing dt) s fun t =>
        (∃ v, t.line = { s.line with txq := [v] } ∧ finished t .exitLight v)
        ∧ Elsewhere [.assembler, .line] dt s t)

/-- The calibration factor (R58) lies between the least and the greatest of the band's factors, and at a
speed node it is that node's factor. -/
def Obligations.FactorLiesBetweenItsNodes : Prop :=
  ∀ (v lo hi : Nat) (nodes : List (Nat × Nat)), nodes ≠ [] →
    nodes.Pairwise (fun p q => p.1 < q.1) → (∀ p ∈ nodes, lo ≤ p.2 ∧ p.2 ≤ hi) →
    (lo ≤ factorAt v nodes ∧ factorAt v nodes ≤ hi) ∧ ∀ p ∈ nodes, factorAt p.1 nodes = p.2

/-! ## Admission Unit (05) -/

/-- ACCEPT_RECORD: a record whose verdict is not HEAVY, and a HEAVY one while closure is not OPEN, is
finished at once with the outcome of R72 or R73's first row: it joins the history ring, and a diversion
extends the sign hold (R77, R149). Its VERDICT is queued if there is room. If there is none it is discarded and
counted (R136), and with that a frame has left the queue (R135): a head claim that is WAITING and may be offered
has its CLAIM queued in place of the youngest VERDICT or REPORT not in flight, here no replay's, which is
counted too (R79); where it is not WAITING, may not be offered or no frame gives way, the queue stays. -/
def Obligations.PlainRecordsAreFinished : Prop :=
  ∀ (s : State) (dt : Time) (r : VehicleRecord) (v : Verdict) (o : VehicleOutcome),
    s.admission.waiting = some r → s.line.inFlight = none → r.verdict = some v →
    v ≠ .heavy ∨ s.sign.closure ≠ .opened →
    o = (if v = .light ∨ v = .unweighed ∧ r.lightMark = true then .proceed
         else if s.sign.closure ≠ .opened then .divertClosed
         else if v = .overlimit then .divertLimit else .divertUnweighed) →
    let number := s.control.straps.number
    let givesWay := fun g : TxFrame => g.kind = .verdict ∨ g.kind = .report
    let finished := fun t : State =>
      t.assembler = { s.assembler with history := pushHistory s.assembler.history { r with outcome := some o } }
      ∧ (o = .proceed → t.sign.holdUntil = s.sign.holdUntil)
      ∧ (o ≠ .proceed → s.sign.holdUntil = none →
          t.sign.holdUntil = some (s.now + dt + BitVec.ofNat 32 (s.signHold * 1000)))
      ∧ (∀ h, o ≠ .proceed → s.sign.holdUntil = some h →
          t.sign.holdUntil = some (later h (s.now + dt + BitVec.ofNat 32 (s.signHold * 1000))))
      ∧ Part.sign.same { s with sign := { s.sign with holdUntil := t.sign.holdUntil } } t
    (s.line.txq.length < 8 →
      Completes (.acceptRecord dt) s fun t =>
        finished t ∧ t.admission = { s.admission with waiting := none }
        ∧ (∃ f, f.kind = .verdict
            ∧ f.bytes = frameBytes number .verdict (verdictPayload { r with outcome := some o })
            ∧ t.line = { s.line with txq := s.line.txq ++ [f] })
        ∧ Elsewhere [.assembler, .admission, .line, .sign] dt s t)
    ∧ (8 ≤ s.line.txq.length →
      (∀ c, s.admission.claims.head? = some c →
        c.state ≠ .waiting ∨ s.offerable c = false ∨ ∀ g ∈ s.line.txq, ¬ givesWay g) →
      Completes (.acceptRecord dt) s fun t =>
        finished t ∧ t.admission = { s.admission with waiting := none }
        ∧ t.counters = { s.counters with txDrops := bump s.counters.txDrops }
        ∧ Elsewhere [.counters, .assembler, .admission, .sign] dt s t)
    ∧ (∀ (c : Claim) (rest : List Claim) (d : TxFrame), 8 ≤ s.line.txq.length →
      s.admission.claims = c :: rest → c.state = .waiting → s.offerable c = true →
      d ∈ s.line.txq → givesWay d → d.use ≠ .replay →
      (∀ g ∈ s.line.txq, givesWay g → g ≠ d → g.arrival < d.arrival) →
      Completes (.acceptRecord dt) s fun t =>
        finished t
        ∧ t.admission = { waiting := none, claims := { c with state := .offeredQueued } :: rest }
        ∧ t.counters = { s.counters with txDrops := bump (bump s.counters.txDrops) }
        ∧ (∃ f, f.kind = .claim ∧ f.bytes = frameBytes number .claim (claimPayload c.vehicle c.dwell s.spanEnd)
            ∧ t.line = { s.line with txq := insertFrame f (s.line.txq.erase d) })
        ∧ Elsewhere [.counters, .assembler, .admission, .line, .sign] dt s t)

/-- ACCEPT_RECORD of a HEAVY record with closure OPEN, no CLAIM in flight and room in the queue, by R73's rows
(closure not OPEN: PlainRecordsAreFinished). It is finished as DIVERT_UNCOORDINATED without a deadline where
the station is not coordinated, as DIVERT_LATE where its deadline is at or before its close time, and as
DIVERT_QUEUE where four claims are held, with VERDICT and sign hold (R77, R149). Otherwise it becomes a claim
with its deadline and dwell (R74 to R76), at the place that its deadline gives. As the new head it calls back
the former head's queued frame, which is WAITING again (R76); if the tests of R94 pass its CLAIM frame joins
the queue, and if one fails it waits (R79). -/
def Obligations.HeavyRecordBecomesAClaim : Prop :=
  ∀ (s : State) (dt : Time) (r : VehicleRecord),
    s.admission.waiting = some r → s.claimInFlight = false → r.verdict = some .heavy →
    s.sign.closure = .opened →
    let number := s.control.straps.number
    let finished := fun (r : VehicleRecord) (o : VehicleOutcome) => s.line.txq.length < 8 →
      Completes (.acceptRecord dt) s fun t =>
        let hold := s.now + dt + BitVec.ofNat 32 (s.signHold * 1000)
        t.admission = { s.admission with waiting := none }
        ∧ t.assembler = { s.assembler with
            history := pushHistory s.assembler.history { r with outcome := some o } }
        ∧ (∃ f, f.kind = .verdict
            ∧ f.bytes = frameBytes number .verdict (verdictPayload { r with outcome := some o })
            ∧ t.line = { s.line with txq := s.line.txq ++ [f] })
        ∧ Part.sign.same { s with sign := { s.sign with
            holdUntil := some ((s.sign.holdUntil.map fun h => later h hold).getD hold) } } t
        ∧ Elsewhere [.assembler, .admission, .line, .sign] dt s t
    (s.coordinated = false → finished r .divertUncoordinated)
    ∧ ∀ (cal : Calibration) (stamp deadline : Time) (v : Nat) (claim : Claim), s.coordinated = true →
      s.control.calibration = some cal → r.firstRowB = some stamp → r.speed = some v →
      deadline = stamp + BitVec.ofNat 32 (cal.lane.decisionDistance * 1000 / v) →
      claim = { vehicle := { r with deadline := some deadline }, deadline, state := .waiting
                dwell := dwellOf cal.site cal.lane.farDistance v, objectionSeen := false
                lastObjection := none, lateMark := none } →
      (reached r.closeTime deadline = true → finished claim.vehicle .divertLate)
      ∧ (reached r.closeTime deadline = false → 4 ≤ s.admission.claims.length →
        finished claim.vehicle .divertQueue)
      ∧ (reached r.closeTime deadline = false → s.admission.claims.length < 4 →
        reached (s.now + dt) deadline = false →
        (∀ (former : List Claim) (freed : List TxFrame),
          (s.admission.claims = [] ∧ former = [] ∧ freed = s.line.txq
            ∨ ∃ d others, s.admission.claims = d :: others ∧ modDiff deadline d.deadline < 0
              ∧ (d.state ≠ .offeredQueued ∧ former = d :: others ∧ freed = s.line.txq
                ∨ d.state = .offeredQueued ∧ former = { d with state := .waiting } :: others
                  ∧ freed = s.line.txq.filter (fun g => g.kind ≠ .claim))) →
          freed.length < 8 →
          Completes (.acceptRecord dt) s fun t =>
            t.assembler = { s.assembler with history := pushHistory s.assembler.history claim.vehicle }
            ∧ (claimTest cal.site s.span r.assessedGross = none →
                t.admission = { waiting := none, claims := { claim with state := .offeredQueued } :: former }
                ∧ ∃ f, f.kind = .claim ∧ t.line = { s.line with txq := insertFrame f freed }
                    ∧ f.bytes = frameBytes number .claim
                        (claimPayload claim.vehicle claim.dwell cal.lane.spanEnd))
            ∧ (claimTest cal.site s.span r.assessedGross ≠ none →
                t.admission = { waiting := none, claims := claim :: former }
                ∧ t.line = { s.line with txq := freed })
            ∧ Elsewhere [.assembler, .admission, .line] dt s t)
        ∧ (∀ before after : List Claim, s.admission.claims = before ++ after → before ≠ [] →
          (∀ d ∈ before, 0 ≤ modDiff deadline d.deadline) →
          (∀ d ∈ after.head?, modDiff deadline d.deadline < 0) →
          Completes (.acceptRecord dt) s fun t =>
            t.assembler = { s.assembler with history := pushHistory s.assembler.history claim.vehicle }
            ∧ t.admission = { waiting := none, claims := before ++ claim :: after }
            ∧ Elsewhere [.assembler, .admission] dt s t))

/-- BACKOFF_EXPIRY of the head claim: it returns to WAITING, and is offered at once if it may be and the
transmit queue has room (R85, R79). -/
def Obligations.BackoffEndsInWaiting : Prop :=
  ∀ (s : State) (dt finish : Time) (c : Claim) (others : List Claim),
    s.admission.claims = c :: others → (∀ d ∈ others, d.vehicle.tag ≠ c.vehicle.tag) →
    c.state = .backoff finish → reached (s.now + dt) finish → s.line.txq.length < 8 →
    Completes (.backoffExpiry dt c.vehicle.tag) s fun t =>
      (s.offerable c = false →
        t.admission = { s.admission with claims := { c with state := .waiting } :: others }
        ∧ t.line = s.line)
      ∧ (s.offerable c = true →
        t.admission = { s.admission with claims := { c with state := .offeredQueued } :: others }
        ∧ ∃ f, f.kind = .claim ∧ t.line = { s.line with txq := insertFrame f s.line.txq }
            ∧ f.bytes = frameBytes s.control.straps.number .claim (claimPayload c.vehicle c.dwell s.spanEnd))
      ∧ Elsewhere [.admission, .line] dt s t

/-- DEADLINE_EXPIRY of the only claim. Its vehicle is finished as DIVERT_REFUSED if an objection was seen
and as DIVERT_LATE if not: with its frame not in flight the claim leaves (R86); with its frame in flight
it stays, late-marked (R87). Either way the ring copy takes the outcome, a VERDICT is queued, and the
sign hold runs (R77, R149). -/
def Obligations.DeadlineDivertsTheVehicle : Prop :=
  ∀ (s : State) (dt : Time) (c : Claim) (o : VehicleOutcome),
    s.admission.claims = [c] → c.lateMark = none → reached (s.now + dt) c.deadline →
    s.line.txq.length < 8 → o = (if c.objectionSeen = true then .divertRefused else .divertLate) →
    Completes (.deadlineExpiry dt c.vehicle.tag) s fun t =>
      (c.state = .offeredInFlight → t.admission.claims =
        [{ c with lateMark := some o, vehicle := { c.vehicle with outcome := some o, lastObjection := c.lastObjection } }])
      ∧ (c.state ≠ .offeredInFlight → t.admission.claims = [])
      ∧ t.admission.waiting = s.admission.waiting
      ∧ t.assembler = { s.assembler with history := s.assembler.history.map fun h =>
          if h.tag = c.vehicle.tag then { h with outcome := some o, lastObjection := c.lastObjection } else h }
      ∧ (∃ f, f.kind = .verdict
          ∧ f.bytes = frameBytes s.control.straps.number .verdict
              (verdictPayload { c.vehicle with outcome := some o, lastObjection := c.lastObjection })
          ∧ t.line = { s.line with txq :=
              (if c.state = .offeredQueued then s.line.txq.filter (fun g => g.kind ≠ .claim)
               else s.line.txq) ++ [f] })
      ∧ (s.sign.holdUntil = none →
          t.sign.holdUntil = some (s.now + dt + BitVec.ofNat 32 (s.signHold * 1000)))
      ∧ Part.sign.same { s with sign := { s.sign with holdUntil := t.sign.holdUntil } } t
      ∧ Elsewhere [.assembler, .admission, .line, .sign] dt s t

/-- The deadline is the first row-B stamp plus floor(S_d × 1 000 / v) ms, at most 3 000 000 ms after it
for the decision distances and speeds that R158 accepts (R74). The dwell is the rounded-up time to the
far end with the margin, at the lesser of the vehicle's speed and v_ref, held between 1 and the dwell cap
(R75): it is the least number of deciseconds that covers the distance, unless a bound holds it. -/
def Obligations.DeadlineAndDwellFollowTheSpeed : Prop :=
  (∀ (decisionDistance v : Nat) (stamp : Time) (r : VehicleRecord),
    r.firstRowB = some stamp → r.speed = some v → decisionDistance ≤ 3000000 → 1000 ≤ v →
    deadlineOf decisionDistance r = stamp + BitVec.ofNat 32 (decisionDistance * 1000 / v)
      ∧ (deadlineOf decisionDistance r - stamp).toNat = decisionDistance * 1000 / v
      ∧ decisionDistance * 1000 / v ≤ 3000000)
  ∧ ∀ (site : SiteSection) (farDistance speed : Nat),
    1 ≤ speed → 1 ≤ site.dwellRefSpeed → 1 ≤ site.dwellCap →
    let dwell := dwellOf site farDistance speed
    let v := min speed site.dwellRefSpeed
    let far := farDistance * (100 + site.dwellMargin) * 10
    1 ≤ dwell ∧ dwell ≤ site.dwellCap
      ∧ dwell = min (max ((far + v * 100 - 1) / (v * 100)) 1) site.dwellCap
      ∧ (dwell < site.dwellCap → far ≤ dwell * (v * 100))
      ∧ (1 < dwell → (dwell - 1) * (v * 100) < far)

/-! ## Span Table (06) -/

/-- The three tests of R94 in their order, for a table of at most 32 entries: the first that fails gives
the reason, equality passes, the sum is not clamped, and CANNOT_VOUCH is never the result. A table of 32
also fails the count test. A station's own claim is tested against its view as it stands, under the
parameters in force, and passes when none fails. -/
def Obligations.ClaimTestsGiveTheFirstFailingReason : Prop :=
  (∀ (site : SiteSection) (table : SpanTable) (a : Nat), table.entries.length ≤ 32 →
    (claimTest site table a = some .tableFull ↔ table.entries.length = 32)
      ∧ (claimTest site table a = some .count ↔
          table.entries.length ≠ 32 ∧ site.maxHeavies < table.count + 1)
      ∧ (claimTest site table a = some .budget ↔
          table.entries.length ≠ 32 ∧ table.count + 1 ≤ site.maxHeavies
            ∧ site.spanBudget < table.sum + site.lightAllowance + a)
      ∧ (claimTest site table a = none ↔
          table.entries.length ≠ 32 ∧ table.count + 1 ≤ site.maxHeavies
            ∧ table.sum + site.lightAllowance + a ≤ site.spanBudget)
      ∧ (table.entries.length = 32 → table.count = table.entries.length → site.maxHeavies ≤ 16 →
          site.maxHeavies < table.count + 1))
  ∧ ∀ (s : State) (cal : Calibration) (a : Nat), s.control.calibration = some cal →
      s.span.entries.length ≤ 32 →
      (s.claimPasses a = true ↔
        s.span.entries.length ≠ 32 ∧ s.span.count + 1 ≤ cal.site.maxHeavies
          ∧ s.span.sum + cal.site.lightAllowance + a ≤ cal.site.spanBudget)

/-- ENTRY_EXPIRY with no claim held: the entry leaves the view with its share of the sum and the count
(R93, R102); an entry of this station's own origin is reported OVERDUE, any other with no report.
LEARNING_TIMER_EXPIRY: the mode becomes ACTIVE (R106). -/
def Obligations.EntriesAndLearningExpire : Prop :=
  (∀ (s : State) (dt : Time) (before after : List SpanEntry) (e : SpanEntry),
      s.control.mode ≠ .failed → s.admission.claims = [] → s.line.txq.length < 8 →
      s.span.entries = before ++ e :: after →
      (∀ x ∈ before, ¬ (x.origin = e.origin ∧ x.tag = e.tag)) → reached (s.now + dt) e.expiry →
      Completes (.entryExpiry dt e.origin e.tag) s fun t =>
        t.span = { s.span with entries := before ++ after, sum := s.span.sum - e.assessedGross,
                               count := s.span.count - 1 }
        ∧ (e.origin ≠ s.control.straps.number → t.line = s.line)
        ∧ (e.origin = s.control.straps.number → ∃ f, f.kind = .report
            ∧ f.bytes = frameBytes s.control.straps.number .report (overduePayload e)
            ∧ t.line = { s.line with txq := insertFrame f s.line.txq })
        ∧ Elsewhere [.span, .line] dt s t)
  ∧ (∀ (s : State) (dt : Time) (l : Learning),
      s.control.mode = .learning → s.control.learning = some l → reached (s.now + dt) l.finish →
      Completes (.learningTimerExpiry dt) s fun t =>
        Part.control.same { s with control := { s.control with mode := .active, learning := none } } t
        ∧ Elsewhere [.control] dt s t)

/-! ## Line Controller (08) -/

/-- Every symbol that a station drives, with its length rounded either way to a microsecond, reads in its
own band (R121, R122), at both bit times. A frame is SOS and then eight data cells a byte, the most
significant bit first, 4 + 8n bit times long for n bytes; a response is a short symbol and the objection
byte, or a long one and the two bytes of a reply (R133, R134); and while the HOLD demand stands the station
drives HOLD, whatever else it has on the line (R138). -/
def Obligations.SymbolsReadInTheirBands : Prop :=
  (∀ (rate : LineRate) (symbol : Symbol) (us : Nat), us ≠ 0 →
    3 * us < symbol.dominantThirds * bitTime rate + 3 → symbol.dominantThirds * bitTime rate < 3 * us + 3 →
    classify (bitTime rate) us = (match symbol with
      | .data0 => .data0 | .data1 => .data1 | .sos => .sos | .normShort => .normShort
      | .normLong => .normLong | .hold => .hold))
  ∧ (∀ (bytes : List Byte),
    (frameSymbols bytes).head? = some .sos ∧ (frameSymbols bytes).length = 1 + 8 * bytes.length
      ∧ ((frameSymbols bytes).map fun x => x.cellThirds.getD 0).sum = 3 * (4 + 8 * bytes.length)
      ∧ ∀ (i : Nat) (b : Byte) (k : Nat), bytes[i]? = some b → k < 8 →
          (frameSymbols bytes)[1 + 8 * i + k]? = some (if b.getMsbD k then .data1 else .data0))
  ∧ (∀ (l : LineControl), l.holdDemand = true → l.driven = [.hold])
  ∧ (∀ (l : LineControl) (x : InFlight), l.holdDemand = false → l.inFlight = some x → x.stopped = false →
      l.driven = frameSymbols x.frame.bytes)
  ∧ (∀ (l : LineControl) (r : ResponseDrive), l.holdDemand = false → l.inFlight = none →
      l.response = some r → r.stopped = false →
      l.driven = (if r.isReply = true then .normLong else .normShort) :: (frameSymbols r.bytes).tail)

/-- LINE_IDLE, SOS_RECEIVED and RECEIVE_FRAMING_ERROR (R123, R132). 4 t_b of recessive end SEEKING. In IDLE
a dominant level inside the SOS band begins a frame, whose assembly is empty and is marked as this
station's own if it drives one (R127); one over 1/6 t_b and below 8 t_b outside the band is counted and
the receiver seeks; either way a starting frame of this station goes on with its byte 0 (that its sender
drives on after a misread SOS, and that an error in FRAME after whole bytes shows its byte 0 over, is logs 5
and 17). In FRAME each of R123's five framing errors (a recessive portion over 1 t_b inside a byte; one after
a whole byte of over 1 t_b that a dominant edge ends before 2 t_b; one over 1.5 t_b after SOS; a dominant level
over 5/6 t_b, below HOLD; a cell that would begin a fourteenth byte) is noted as the first error, uncounted
until the end of data, and the rest is discarded. In RESPONSE a level
over 5/6 t_b and below 8 t_b after the normalization symbol is counted at once, unless the frame has a
first error, and the response is read no further (R132, log 19). -/
def Obligations.ReceiverFollowsTheLine : Prop :=
  (∀ (s : State) (dt : Time), s.line.phase = .seeking → s.line.inFlight = none → s.line.response = none →
    Completes (.lineIdle dt) s fun t =>
      t.line = { s.line with phase := .idle, echoWait := false } ∧ Elsewhere [.line] dt s t)
  ∧ (∀ (s : State) (dt : Time) (us : Nat), s.line.phase = .idle →
    30 * bitTime s.control.straps.rate < 12 * us → 12 * us < 42 * bitTime s.control.straps.rate →
    (s.line.inFlight = none →
      Completes (.sosReceived dt us) s fun t =>
        t.line = { s.line with
          phase := .frame
          rx := { bytes := [], firstError := none, own := false, good := false, opening := none } }
        ∧ Elsewhere [.line] dt s t)
    ∧ (∀ x, s.line.inFlight = some x → x.phase = .start → x.stopped = false →
      Completes (.sosReceived dt us) s fun t =>
        t.line = { s.line with
          phase := .frame
          rx := { bytes := [], firstError := none, own := true, good := false, opening := none }
          inFlight := some { x with phase := .byte0 } }
        ∧ Elsewhere [.line] dt s t))
  ∧ (∀ (s : State) (dt : Time) (us : Nat) (bytes : List Byte), s.line.phase = .idle →
    bitTime s.control.straps.rate < 6 * us → us < 8 * bitTime s.control.straps.rate →
    12 * us < 30 * bitTime s.control.straps.rate ∨ 42 * bitTime s.control.straps.rate < 12 * us →
    Completes (.receiveFramingError dt (.dominant us) bytes) s fun t =>
      t.line = { s.line with
        phase := .seeking
        inFlight := s.line.inFlight.map fun x =>
          if x.phase = .start ∧ x.stopped = false then { x with phase := .byte0 } else x }
      ∧ t.counters = { s.counters with framingErrors := bump s.counters.framingErrors }
      ∧ Elsewhere [.line, .counters] dt s t)
  ∧ (∀ (s : State) (dt : Time) (cause : FramingCause) (bytes : List Byte), s.line.phase = .frame →
    s.line.rx.firstError = none →
    let tb := bitTime s.control.straps.rate
    (∃ us, cause = .recessiveInByte us ∧ tb < us ∧ bytes.length ≤ 13)
      ∨ (∃ us, cause = .recessiveAfterByte us ∧ tb < us ∧ us < 2 * tb ∧ bytes ≠ [] ∧ bytes.length ≤ 13)
      ∨ (∃ us, cause = .recessiveAfterSos us ∧ 3 * tb < 2 * us ∧ bytes = [])
      ∨ (∃ us, cause = .dominant us ∧ 10 * tb < 12 * us ∧ us < 8 * tb ∧ bytes.length ≤ 13)
      ∨ cause = .fourteenthByte ∧ bytes.length = 13 →
    Completes (.receiveFramingError dt cause bytes) s fun t =>
      t.line = { s.line with
        phase := .discard, rx := { s.line.rx with bytes, firstError := some .framing }
        inFlight := s.line.inFlight.map fun x =>
          if s.line.rx.own = true ∧ bytes ≠ [] ∧ x.phase = .byte0 ∧ x.stopped = false
          then { x with phase := .data } else x }
      ∧ Elsewhere [.line] dt s t)
  ∧ (∀ (s : State) (dt : Time) (us : Nat) (bytes : List Byte), s.line.phase = .response →
    s.line.rx.opening = some .short ∨ s.line.rx.opening = some .long → bytes.length ≤ 13 →
    10 * bitTime s.control.straps.rate < 12 * us → us < 8 * bitTime s.control.straps.rate →
    Completes (.receiveFramingError dt (.dominant us) bytes) s fun t =>
      t.line = { s.line with rx := { s.line.rx with
        firstError := some (s.line.rx.firstError.getD .framing), opening := some .misshapen } }
      ∧ t.counters = { s.counters with
          framingErrors := if s.line.rx.firstError = none then bump s.counters.framingErrors
            else s.counters.framingErrors }
      ∧ Elsewhere [.line, .counters] dt s t)

/-- RESPONSE_SEEN (R132): a dominant level over 1/6 t_b in the window is a response. A short symbol after
a CLAIM of another station is noted and counted nowhere; after a DEPART, which draws none, it is
unexpected and counted once. A claim in flight is marked 'objection seen' at this moment already, which
is the model's choice: R82 records the objection at the end of the frame (log 33). ARBITRATION_LOSS in a cell of
this station's objection byte that drives data 1: it is driven no further, and nothing is counted (R133).
BIT_ERROR in a cell of it that drives data 0, or in any cell of this station's reply: it is driven no further and
a bit error is counted (R133, R134; that both are counted is log 20, that a data 1 of the reply byte can have one
is log 46). -/
def Obligations.ResponsesAreSeen : Prop :=
  (∀ (s : State) (dt : Time) (us : Nat), s.line.phase = .window →
    10 * bitTime s.control.straps.rate < 12 * us → 2 * us < 3 * bitTime s.control.straps.rate →
    frameKind s.line.rx.bytes = some .claim → s.line.inFlight = none →
    Completes (.responseSeen dt us) s fun t =>
      t.line = { s.line with phase := .response, rx := { s.line.rx with opening := some .short } }
      ∧ Elsewhere [.line] dt s t)
  ∧ (∀ (s : State) (dt : Time) (us : Nat), s.line.phase = .window →
    10 * bitTime s.control.straps.rate < 12 * us → 2 * us < 3 * bitTime s.control.straps.rate →
    frameKind s.line.rx.bytes = some .depart → s.line.inFlight = none → s.line.rx.firstError = none →
    Completes (.responseSeen dt us) s fun t =>
      t.line = { s.line with
        phase := .response, rx := { s.line.rx with firstError := some .framing, opening := some .short } }
      ∧ t.counters = { s.counters with framingErrors := bump s.counters.framingErrors }
      ∧ Elsewhere [.line, .counters] dt s t)
  ∧ (∀ (s : State) (dt : Time) (us : Nat) (x : InFlight) (c : Claim), s.line.phase = .window →
    bitTime s.control.straps.rate < 6 * us →
    s.line.inFlight = some x → x.frame.kind = .claim → s.admission.claims = [c] →
    c.state = .offeredInFlight → c.lateMark = none →
    Completes (.responseSeen dt us) s fun t =>
      t.admission = { s.admission with claims := [{ c with objectionSeen := true }] }
      ∧ t.line.phase = .response ∧ t.line.inFlight = some x
      ∧ Elsewhere [.line, .counters, .admission] dt s t)
  ∧ (∀ (s : State) (dt : Time) (r : ResponseDrive) (cell : Nat), s.line.inFlight = none →
    s.line.response = some r → r.stopped = false →
    let given := { s.line with response := some { r with stopped := true } }
    (r.isReply = false → cell < 8 → cellOf r.bytes cell = some true →
      Completes (.arbitrationLoss dt cell) s fun t => t.line = given ∧ Elsewhere [.line] dt s t)
    ∧ (cellOf r.bytes cell = some false ∨ r.isReply = true ∧ cellOf r.bytes cell = some true →
      Completes (.bitError dt cell) s fun t =>
        t.line = given ∧ t.counters = { s.counters with bitErrors := bump s.counters.bitErrors }
        ∧ Elsewhere [.line, .counters] dt s t))

/-- FRAME_START of a ready station (R127): the first frame of the queue starts, driven or joined, and
stays queued. A CLAIM is rechecked (R80): one that passes is counted as offered and is in flight; one
that fails is removed with nothing driven, and its claim waits. -/
def Obligations.ReadyStationStartsItsFirstFrame : Prop :=
  ∀ (s : State) (dt : Time) (join : Bool) (f : TxFrame) (rest : List TxFrame),
    s.line.phase = .idle → s.line.state = .normal → s.control.mode ≠ .failed →
    s.line.holdDemand = false → s.line.inFlight = none → s.line.response = none →
    s.line.echoWait = false → s.line.txq = f :: rest →
    (f.kind ≠ .claim →
      Completes (.frameStart dt join) s fun t =>
        t.line = { s.line with inFlight := some ⟨f, .start, join, false⟩ }
        ∧ Elsewhere [.line] dt s t)
    ∧ (∀ (c : Claim), f.kind = .claim → s.admission.claims = [c] → c.state = .offeredQueued →
        s.offerable c = true →
        Completes (.frameStart dt join) s fun t =>
          t.line = { s.line with inFlight := some ⟨f, .start, join, false⟩ }
          ∧ t.admission = { s.admission with claims := [{ c with state := .offeredInFlight }] }
          ∧ t.counters = { s.counters with claimsOffered := bump s.counters.claimsOffered }
          ∧ Elsewhere [.line, .admission, .counters] dt s t)
    ∧ (∀ (c : Claim), f.kind = .claim → s.admission.claims = [c] → c.state = .offeredQueued →
        s.offerable c = false → rest = [] →
        Completes (.frameStart dt join) s fun t =>
          t.line = { s.line with txq := [] }
          ∧ t.admission = { s.admission with claims := [{ c with state := .waiting }] }
          ∧ Elsewhere [.line, .admission] dt s t)

/-- NO_ECHO_FAULT of a frame that is neither a CLAIM nor the isolation frame (R128): the fault is counted,
the frame stays queued, nothing is in flight and the wait for recessive begins (its flag is log 7). The
third in a row isolates a NORMAL line (R139): the isolation timer runs for 5 s and LINE_FAULT is raised. The
third of a CLAIM, its claim the only one, isolates it too, and the claim leaves with its frame: one without a
late mark as DIVERT_UNCOORDINATED, with a VERDICT and the sign hold (R83, R90), one with it without more (R88).
ISOLATION_TIMER_EXPIRY builds one STATUS page 0 outside the transmit queue, and at the END_OF_FRAME that
completes it the line is NORMAL, the run is 0 and learning starts, with the queue as it was (R139, R106). -/
def Obligations.EchoFaultsIsolateTheLine : Prop :=
  (∀ (s : State) (dt : Time) (f : TxFrame),
      s.line.inFlight = some ⟨f, .start, false, false⟩ →
      f.use = .ordinary → f.kind ≠ .claim → s.line.state = .normal →
      (s.line.noEchoRun < 2 →
        Completes (.noEchoFault dt) s fun t =>
          t.line = { s.line with noEchoRun := s.line.noEchoRun + 1, echoWait := true, inFlight := none
                                 rx := { s.line.rx with own := false } }
          ∧ t.counters = { s.counters with noEchoFaults := bump s.counters.noEchoFaults }
          ∧ Elsewhere [.line, .counters] dt s t)
      ∧ (s.line.noEchoRun = 2 → s.control.sense = none → s.admission.claims = [] →
        Completes (.noEchoFault dt) s fun t =>
          t.line = { s.line with noEchoRun := 3, echoWait := true, inFlight := none
                                 rx := { s.line.rx with own := false }
                                 state := .isolated, isolationTimer := some (s.now + dt + 5000) }
          ∧ t.counters = { s.counters with noEchoFaults := bump s.counters.noEchoFaults }
          ∧ t.control =
              { s.control with fault := true, sense := some ⟨.lineFault, 0, none, s.now + dt⟩ }
          ∧ Elsewhere [.line, .counters, .control] dt s t))
  ∧ (∀ (s : State) (dt : Time) (f : TxFrame) (c : Claim), s.line.inFlight = some ⟨f, .start, false, false⟩ →
      f.kind = .claim → f.use = .ordinary → s.line.state = .normal → s.line.noEchoRun = 2 →
      s.control.sense = none → s.admission.claims = [c] → c.state = .offeredInFlight →
      let isolated := { s.line with noEchoRun := 3, echoWait := true, inFlight := none
                                    rx := { s.line.rx with own := false }
                                    state := .isolated, isolationTimer := some (s.now + dt + 5000)
                                    txq := s.line.txq.filter (fun g => g.kind ≠ .claim) }
      let common := fun t : State =>
        t.admission = { s.admission with claims := [] }
        ∧ t.counters = { s.counters with noEchoFaults := bump s.counters.noEchoFaults }
        ∧ t.control = { s.control with fault := true, sense := some ⟨.lineFault, 0, none, s.now + dt⟩ }
      (c.lateMark = none → isolated.txq.length < 8 →
        Completes (.noEchoFault dt) s fun t =>
          common t ∧ DivertedClaim c .divertUncoordinated isolated dt s t
          ∧ Elsewhere [.line, .counters, .control, .admission, .assembler, .sign] dt s t)
      ∧ (c.lateMark ≠ none →
        Completes (.noEchoFault dt) s fun t =>
          common t ∧ t.line = isolated ∧ Elsewhere [.line, .counters, .control, .admission] dt s t))
  ∧ (∀ (s : State) (dt finish : Time), s.line.state = .isolated → s.line.isolationTimer = some finish →
      reached (s.now + dt) finish → s.control.mode ≠ .failed →
      Completes (.isolationTimerExpiry dt) s fun t =>
        (∃ f, f.kind = .status ∧ f.use = .isolation
          ∧ f.bytes = frameBytes s.control.straps.number .status s.statusPage0
          ∧ t.line = { s.line with isolationTimer := none, isolationFrame := some f })
        ∧ Elsewhere [.line] dt s t)
  ∧ (∀ (s : State) (dt : Time) (x : InFlight),
      s.line.inFlight = some x → x.stopped = false → x.frame.kind = .status → x.frame.use = .isolation →
      s.line.phase = .window → s.line.rx.own = true → s.line.response = none → s.line.holdDemand = false →
      s.control.mode = .learning ∨ s.control.mode = .active → s.admission.claims = [] →
      let cap := match s.control.calibration with
        | some cal => cal.site.dwellCap * 100
        | none => 600000
      Completes (.endOfFrame dt []) s fun t =>
        t.line = { s.line with phase := .idle, rx := .empty, echoWait := false, inFlight := none
                               noEchoRun := 0, state := .normal, isolationTimer := none
                               isolationFrame := none }
        ∧ t.counters = { s.counters with framesSent := bump s.counters.framesSent }
        ∧ Part.control.same { s with control := { s.control with
            mode := .learning, learning := some ⟨s.now + dt, s.now + dt + BitVec.ofNat 32 cap⟩ } } t
        ∧ t.handler = { s.handler with prepared := none }
        ∧ Elsewhere [.line, .counters, .control, .handler] dt s t)

/-- ARBITRATION_LOSS in a cell of byte 0 that drives data 1 (R129), BIT_ERROR in a cell of byte 0 that
drives data 0 or in any later cell (R130), and, of a CLAIM or of the isolation frame, a NO_ECHO_FAULT that
does not isolate the line (R128; the wait's flag is log 7): the sender stops, the loss, error or fault is
counted, nothing is in flight, the frame stays queued and the receiver reads on as a receiver. At a coordinated
station a CLAIM's claim stays OFFERED with its frame queued (R83). A late-marked claim leaves, its frame is
removed and nothing else changes, the head after it being none or in BACKOFF (R88). At a station no longer
coordinated the only claim, without a late mark, leaves with its frame as DIVERT_UNCOORDINATED, with a VERDICT
and the sign hold (R90). The isolation frame is discarded and its timer runs for 5 s again (R139). -/
def Obligations.AttemptsEndByLossErrorOrFault : Prop :=
  ∀ (s : State) (dt : Time) (f : TxFrame) (phase : TxPhase) (joined : Bool) (cell : Nat) (e : Instr)
    (line : LineControl) (counters : Counters),
    s.line.inFlight = some ⟨f, phase, joined, false⟩ →
    let sends := (phase = .byte0 ∨ phase = .data ∧ 8 ≤ cell) ∧ cell < 8 * f.bytes.length
    let stopped := { s.line with inFlight := none, rx := { s.line.rx with own := false } }
    (e = .arbitrationLoss dt cell ∧ sends ∧ cell < 8 ∧ cellOf f.bytes cell = some true ∧ line = stopped
        ∧ counters = { s.counters with arbitrationLosses := bump s.counters.arbitrationLosses }
      ∨ e = .bitError dt cell ∧ sends ∧ (8 ≤ cell ∨ cellOf f.bytes cell = some false) ∧ line = stopped
        ∧ counters = { s.counters with bitErrors := bump s.counters.bitErrors }
      ∨ e = .noEchoFault dt ∧ phase = .start ∧ joined = false ∧ (f.kind = .claim ∨ f.use = .isolation)
        ∧ (s.line.noEchoRun < 2 ∨ s.line.state ≠ .normal)
        ∧ line = { stopped with noEchoRun := min (s.line.noEchoRun + 1) 3, echoWait := true }
        ∧ counters = { s.counters with noEchoFaults := bump s.counters.noEchoFaults }) →
    let removed := { line with txq := line.txq.filter fun g => g.kind ≠ .claim }
    (f.kind ≠ .claim → f.use ≠ .isolation →
      Completes e s fun t => t.line = line ∧ t.counters = counters ∧ Elsewhere [.line, .counters] dt s t)
    ∧ (f.use = .isolation →
      Completes e s fun t =>
        t.line = { line with isolationFrame := none, isolationTimer := some (s.now + dt + 5000) }
        ∧ t.counters = counters ∧ Elsewhere [.line, .counters] dt s t)
    ∧ (∀ (c : Claim) (rest : List Claim), f.kind = .claim → f.use ≠ .isolation →
      s.admission.claims = c :: rest → c.state = .offeredInFlight →
      (∀ d ∈ rest, d.vehicle.tag ≠ c.vehicle.tag) →
      (c.lateMark = none → s.coordinated = true →
        Completes e s fun t =>
          t.line = line ∧ t.counters = counters
          ∧ t.admission = { s.admission with claims := { c with state := .offeredQueued } :: rest }
          ∧ Elsewhere [.line, .counters, .admission] dt s t)
      ∧ (c.lateMark ≠ none → rest = [] ∨ s.coordinated = true ∧ (∀ d, rest.head? = some d → d.state ≠ .waiting) →
        Completes e s fun t =>
          t.line = removed ∧ t.counters = counters ∧ t.admission = { s.admission with claims := rest }
          ∧ Elsewhere [.line, .counters, .admission] dt s t)
      ∧ (c.lateMark = none → s.coordinated = false → rest = [] → removed.txq.length < 8 →
        Completes e s fun t =>
          t.counters = counters ∧ t.admission = { s.admission with claims := [] }
          ∧ DivertedClaim c .divertUncoordinated removed dt s t
          ∧ Elsewhere [.line, .counters, .admission, .assembler, .sign] dt s t))

/-- END_OF_DATA of a frame of another station (R125), while no HOLD demand stands: a frame received good counts
nothing, a rejected one is counted in exactly one class, and one that ends in DISCARD as the framing error noted
in it. A CLAIM at a coordinated station (R95, R97, R99, R132): a damaged one draws CANNOT_VOUCH; a good one of
another station draws the first failing reason of R94, and silence if its key is held or no test fails; one with
this station's number or a dwell out of range draws CANNOT_VOUCH (R98). No response is driven to a CLAIM by a
station that is not coordinated (R95, R107), nor to a frame of another kind or of none, but for a COMMAND received
good with this station as target. An own frame is not judged and counts nothing (R125, R127). -/
def Obligations.FramesAreJudgedAtEndOfData : Prop :=
  (∀ (s : State) (dt : Time) (bytes operand : List Byte) (error : Option RxError),
    s.line.rx.own = false → s.line.holdDemand = false → s.line.response = none →
    s.line.phase = .discard ∧ s.line.rx.bytes = bytes ∧ error = some (s.line.rx.firstError.getD .framing)
      ∨ s.line.phase = .frame ∧ s.line.rx.firstError = none ∧ operand = bytes ∧ bytes ≠ []
        ∧ bytes.length ≤ 13 ∧ error = frameError bytes →
    let number := s.control.straps.number
    let p := claimPayloadOf (framePayload bytes)
    let judged := fun (objection : Option Nat) => Completes (.endOfData dt operand) s fun t =>
      t.line = { s.line with
        phase := .window
        rx := { bytes, firstError := error, own := false, good := error.isNone, opening := none }
        response := objection.map fun code =>
          { bytes := [byteOf (16 * code + number.toNat)], isReply := false, stopped := false } }
      ∧ t.counters = { s.counters with
          crcErrors := if error = some .crc then bump s.counters.crcErrors else s.counters.crcErrors
          framingErrors := if error = some .framing then bump s.counters.framingErrors
            else s.counters.framingErrors
          formatErrors := if error = some .format then bump s.counters.formatErrors else s.counters.formatErrors
          objectionsSent := if objection.isSome then bump s.counters.objectionsSent
            else s.counters.objectionsSent }
      ∧ Elsewhere [.line, .counters] dt s t
    (∀ cal : Calibration, frameKind bytes = some .claim → s.coordinated = true →
      s.control.calibration = some cal →
      (error ≠ none → judged (some 1))
      ∧ (error = none → (frameSource bytes = number ∨ p.dwell = 0 ∨ cal.site.dwellCap < p.dwell) →
        judged (some 1))
      ∧ (error = none → frameSource bytes ≠ number → 1 ≤ p.dwell → p.dwell ≤ cal.site.dwellCap →
        (s.span.holds (frameSource bytes) p.tag = true → judged none)
        ∧ (s.span.holds (frameSource bytes) p.tag = false →
            judged ((claimTest cal.site s.span p.assessedGross).map Reason.code))))
    ∧ (frameKind bytes = some .claim → s.coordinated = false → judged none)
    ∧ (frameKind bytes ≠ some .claim →
        frameKind bytes ≠ some .command ∨ error ≠ none ∨ frameTarget bytes ≠ number → judged none))
  ∧ ∀ (s : State) (dt : Time) (bytes : List Byte) (x : InFlight), s.line.rx.own = true →
    s.line.inFlight = some x → x.stopped = false → s.line.holdDemand = false →
    s.line.phase = .frame ∨ s.line.phase = .discard →
    Completes (.endOfData dt bytes) s fun t =>
      t.line = { s.line with
        phase := .window, inFlight := some { x with phase := .window }
        rx := { s.line.rx with bytes := x.frame.bytes, good := false, opening := none } }
      ∧ Elsewhere [.line] dt s t

/-- END_OF_FRAME of a frame of another station received good, in whose window no response was seen (R96,
R100, R101). A granted CLAIM adds an entry at the tail with this station's time and its dwell held
between 1 and the cap; a key already held is a duplicate, a full table a lost entry. A DEPART removes the
entry that it names, or is counted. A CLAIM in whose window a response was seen, this station's own
objection among them, adds no entry; a shape of the response that is broken is counted unless the frame has
a first error (R132; what breaks it is log 19, that the opening symbol alone says which shape it is held to is
log 45). -/
def Obligations.GrantsAndDepartsReachTheView : Prop :=
  (∀ (s : State) (dt : Time),
    s.line.phase = .window → s.line.rx.own = false → s.line.rx.good = true → s.line.response = none →
    s.line.inFlight = none → s.control.mode ≠ .failed → frameSource s.line.rx.bytes ≠ s.control.straps.number →
    let source := frameSource s.line.rx.bytes
    let p := claimPayloadOf (framePayload s.line.rx.bytes)
    let key := departKey (framePayload s.line.rx.bytes)
    let dwell := min (max p.dwell 1) s.dwellCap
    let ended := fun (t : State) =>
      t.line = { s.line with phase := .idle, rx := .empty, response := none, echoWait := false }
        ∧ t.handler = { s.handler with prepared := none }
    (frameKind s.line.rx.bytes = some .claim → s.span.holds source p.tag = false →
      s.span.entries.length < 32 →
      Completes (.endOfFrame dt []) s fun t =>
        ended t ∧ Elsewhere [.line, .span, .handler] dt s t
        ∧ t.span = { s.span with
            entries := s.span.entries ++
              [⟨source, p.tag, p.entryEnd, p.axleCount, p.measuredGross, p.assessedGross, dwell,
                s.now + dt, s.now + dt + BitVec.ofNat 32 (dwell * 100), false⟩]
            sum := s.span.sum + p.assessedGross, count := s.span.count + 1 })
    ∧ (frameKind s.line.rx.bytes = some .claim → s.span.holds source p.tag = true →
      Completes (.endOfFrame dt []) s fun t =>
        ended t ∧ Elsewhere [.line, .span, .handler] dt s t
        ∧ t.span = { s.span with duplicates := bump s.span.duplicates })
    ∧ (frameKind s.line.rx.bytes = some .claim → s.span.holds source p.tag = false →
      s.span.entries.length = 32 →
      Completes (.endOfFrame dt []) s fun t =>
        ended t ∧ Elsewhere [.line, .span, .handler] dt s t
        ∧ t.span = { s.span with lost := bump s.span.lost })
    ∧ (frameKind s.line.rx.bytes = some .depart → s.span.holds key.1 key.2 = false →
      Completes (.endOfFrame dt []) s fun t =>
        ended t ∧ Elsewhere [.line, .counters, .handler] dt s t
        ∧ t.counters = { s.counters with unknownDepartures := bump s.counters.unknownDepartures })
    ∧ (∀ before after e, frameKind s.line.rx.bytes = some .depart →
      s.span.entries = before ++ e :: after → (e.origin, e.tag) = key →
      (∀ x ∈ before, (x.origin, x.tag) ≠ key) → s.admission.claims = [] →
      Completes (.endOfFrame dt []) s fun t =>
        ended t ∧ Elsewhere [.line, .span, .handler] dt s t
        ∧ t.span = { s.span with entries := before ++ after, sum := s.span.sum - e.assessedGross,
                                 count := s.span.count - 1 }))
  ∧ ∀ (s : State) (dt : Time) (levels : List Nat) (broken : Bool),
    s.line.rx.own = false → s.line.rx.good = true → s.line.inFlight = none →
    s.line.holdDemand = false ∨ s.line.response = none → frameKind s.line.rx.bytes = some .claim →
    frameSource s.line.rx.bytes ≠ s.control.straps.number →
    (s.line.phase = .window ∧ s.line.response ≠ none ∧ broken = false
      ∨ s.line.phase = .response ∧ ∃ o, s.line.rx.opening = some o
        ∧ broken = (decide (o ≠ .misshapen) && responseBroken (bitTime s.control.straps.rate) o levels)) →
    Completes (.endOfFrame dt levels) s fun t =>
      t.line = { s.line with phase := .idle, rx := .empty, response := none, echoWait := false }
      ∧ t.counters = { s.counters with
          framingErrors := if broken = true ∧ s.line.rx.firstError = none
            then bump s.counters.framingErrors else s.counters.framingErrors }
      ∧ t.handler = { s.handler with prepared := none } ∧ Elsewhere [.line, .counters, .handler] dt s t

/-- END_OF_FRAME of this station's own CLAIM, the only frame queued, of the only claim (R81, R82, R88, R131).
With no response seen it is granted: the own entry joins the view with the frame's values, its dwell held
between 1 and the cap; the vehicle of a claim not late-marked is finished ADMITTED, be the station still
coordinated or not (R90), and for a late-marked one a DEPART WITHDRAWN is queued. With a response, of whatever
shape, no entry is added. A claim without a late mark goes to BACKOFF for 500 ms with the objection read, or, at
a station no longer coordinated, leaves as DIVERT_UNCOORDINATED with that objection in its record, its VERDICT
and the sign hold (R90). A late-marked claim leaves, its objection not recorded (R88). A shape broken at the end
is counted unless the frame has a first error (R132; what breaks it is log 19, that the opening symbol alone says
which shape it is held to is log 45). A short symbol and a whole byte with a reason of 1 to 4 read as that reason
and objector (R133). -/
def Obligations.OwnClaimEndsGrantedOrObjected : Prop :=
  (∀ (s : State) (dt : Time) (x : InFlight) (c : Claim) (levels : List Nat),
    s.line.inFlight = some x → x.frame.kind = .claim → x.frame.use = .ordinary → x.stopped = false →
    s.line.rx.own = true → s.line.holdDemand = false →
    s.line.txq = [x.frame] → s.line.response = none → s.admission.claims = [c] →
    c.state = .offeredInFlight → s.control.mode ≠ .failed →
    let p := claimPayloadOf (framePayload x.frame.bytes)
    let own := s.control.straps.number
    let tb := bitTime s.control.straps.rate
    let dwell := min (max p.dwell 1) s.dwellCap
    let ended := { s.line with
      phase := .idle, rx := .empty, echoWait := false, noEchoRun := 0, inFlight := none, txq := [] }
    (s.line.phase = .window → s.span.holds own p.tag = false → s.span.entries.length < 32 →
      Completes (.endOfFrame dt levels) s fun t =>
        t.admission = { s.admission with claims := [] }
        ∧ t.span = { s.span with
            entries := s.span.entries ++
              [⟨own, p.tag, p.entryEnd, p.axleCount, p.measuredGross, p.assessedGross, dwell,
                s.now + dt, s.now + dt + BitVec.ofNat 32 (dwell * 100), false⟩]
            sum := s.span.sum + p.assessedGross, count := s.span.count + 1 }
        ∧ t.counters = { s.counters with framesSent := bump s.counters.framesSent
                                         claimsGranted := bump s.counters.claimsGranted }
        ∧ (c.lateMark = none →
            (∃ v, v.kind = .verdict ∧ t.line = { ended with txq := [v] }
              ∧ v.bytes = frameBytes own .verdict (verdictPayload
                  { c.vehicle with outcome := some .admitted, lastObjection := c.lastObjection }))
            ∧ t.assembler = { s.assembler with history := s.assembler.history.map fun h =>
                if h.tag = c.vehicle.tag
                then { h with outcome := some .admitted, lastObjection := c.lastObjection } else h })
        ∧ (c.lateMark ≠ none →
            (∃ d, d.kind = .depart ∧ t.line = { ended with txq := [d] }
              ∧ d.bytes = frameBytes own .depart (be16 (4096 * own.toNat + c.vehicle.tag.toNat) ++ [2]))
            ∧ t.assembler = s.assembler)
        ∧ t.handler = { s.handler with prepared := none }
        ∧ Elsewhere [.counters, .assembler, .admission, .span, .line, .handler] dt s t)
    ∧ (∀ o, s.line.phase = .response → s.line.rx.opening = some o →
      let objection := readObjection tb (some o) levels
      let objected := fun (t : State) (claims : List Claim) =>
        t.admission = { s.admission with claims }
        ∧ t.counters = { s.counters with
            framesSent := bump s.counters.framesSent
            framingErrors := if s.line.rx.firstError = none ∧ o ≠ .misshapen ∧ responseBroken tb o levels = true
              then bump s.counters.framingErrors else s.counters.framingErrors }
        ∧ t.handler = { s.handler with prepared := none }
      (c.lateMark = none → s.coordinated = true →
        Completes (.endOfFrame dt levels) s fun t =>
          objected t [{ c with
            state := .backoff (s.now + dt + 500), objectionSeen := true, lastObjection := some objection }]
          ∧ t.line = ended ∧ Elsewhere [.counters, .admission, .line, .handler] dt s t)
      ∧ (c.lateMark = none → s.coordinated = false →
        Completes (.endOfFrame dt levels) s fun t =>
          objected t []
          ∧ DivertedClaim { c with lastObjection := some objection } .divertUncoordinated ended dt s t
          ∧ Elsewhere [.counters, .admission, .line, .handler, .assembler, .sign] dt s t)
      ∧ (c.lateMark ≠ none →
        Completes (.endOfFrame dt levels) s fun t =>
          objected t [] ∧ t.line = ended ∧ Elsewhere [.counters, .admission, .line, .handler] dt s t)))
  ∧ ∀ (tb : Nat) (levels : List Nat) (reason : Reason) (objector : StationNo),
      responseCells tb levels = (List.range 8).map (cellOf [Objection.toByte { reason, objector }]) →
      readObjection tb (some .short) levels = { reason, objector }

/-- END_OF_FRAME of this station's own frame that is no CLAIM, with no claim held and no response seen
(R131): frames sent is incremented, the no-echo run returns to 0 and the frame leaves the queue. A DEPART is
applied to this station's own view: the entry it names leaves, or the departure is counted as unknown (R104).
A frame of a replay lets the next held frame join the queue, and the last one ends the replay (R170). -/
def Obligations.OwnFramesComplete : Prop :=
  ∀ (s : State) (dt : Time) (x : InFlight) (before after : List TxFrame),
    s.line.inFlight = some x → x.stopped = false → s.line.phase = .window → s.line.rx.own = true →
    s.line.response = none → s.line.holdDemand = false → s.admission.claims = [] →
    s.line.txq = before ++ x.frame :: after →
    (∀ g ∈ before ++ after, g.arrival ≠ x.frame.arrival) →
    x.frame.kind ≠ .claim → x.frame.use ≠ .isolation →
    let left := before ++ after
    let ended := { s.line with
      phase := .idle, rx := .empty, echoWait := false, noEchoRun := 0, inFlight := none, txq := left }
    let sent := { s.counters with framesSent := bump s.counters.framesSent }
    let handler := { s.handler with prepared := none }
    let key := departKey (framePayload x.frame.bytes)
    (x.frame.kind ≠ .depart → x.frame.use ≠ .replay →
      Completes (.endOfFrame dt []) s fun t =>
        t.line = ended ∧ t.counters = sent ∧ t.handler = handler
        ∧ Elsewhere [.line, .counters, .handler] dt s t)
    ∧ (x.frame.kind = .depart → x.frame.use ≠ .replay → s.control.mode ≠ .failed →
      s.span.holds key.1 key.2 = false →
      Completes (.endOfFrame dt []) s fun t =>
        t.line = ended ∧ t.handler = handler
        ∧ t.counters = { sent with unknownDepartures := bump s.counters.unknownDepartures }
        ∧ Elsewhere [.line, .counters, .handler] dt s t)
    ∧ (∀ front back e, x.frame.kind = .depart → x.frame.use ≠ .replay → s.control.mode ≠ .failed →
      s.span.entries = front ++ e :: back → (e.origin, e.tag) = key →
      (∀ y ∈ front, (y.origin, y.tag) ≠ key) →
      Completes (.endOfFrame dt []) s fun t =>
        t.line = ended ∧ t.handler = handler ∧ t.counters = sent
        ∧ t.span = { s.span with entries := front ++ back, sum := s.span.sum - e.assessedGross,
                                 count := s.span.count - 1 }
        ∧ Elsewhere [.line, .counters, .span, .handler] dt s t)
    ∧ (∀ g rest, x.frame.kind ≠ .depart → x.frame.use = .replay → s.handler.replay = some (g :: rest) →
      left.length < 8 →
      Completes (.endOfFrame dt []) s fun t =>
        (∃ f, f.kind = g.kind ∧ f.use = .replay
          ∧ f.bytes = frameBytes s.control.straps.number g.kind g.payload
          ∧ t.line = { ended with txq := insertFrame f left })
        ∧ t.handler = { handler with replay := some rest } ∧ t.counters = sent
        ∧ Elsewhere [.line, .counters, .handler] dt s t)
    ∧ (x.frame.kind ≠ .depart → x.frame.use = .replay → s.handler.replay = some [] →
      Completes (.endOfFrame dt []) s fun t =>
        t.line = ended ∧ t.handler = { handler with replay := none } ∧ t.counters = sent
        ∧ Elsewhere [.line, .counters, .handler] dt s t)

/-- END_OF_FRAME hands on frames of another sender (R126), with no frame of this station in flight and
nothing pending. A COMMAND for this station whose reply completed makes its command due, one whose reply
was stopped makes none (R134, R165, log 8), and a RESTART met with no line for a reply is due all the same.
A STATUS page 0 of a LOADED station with another site checksum, not seen before, adds its source to the
mismatch list, raises SITE_MISMATCH and is reported (R162, R169); with the same checksum it does nothing.
A frame of this station's own number is an identity conflict (R140): the line is LISTEN_ONLY and IDENTITY is
raised (that the isolation frame goes is log 30), and a LISTEN_ONLY station changes nothing. -/
def Obligations.FramesAreHandedOnAtTheirEnd : Prop :=
  ∀ (s : State) (dt : Time), s.line.rx.own = false → s.line.rx.good = true → s.line.inFlight = none →
    s.line.holdDemand = false ∨ s.line.response = none → s.control.sense = none →
    let number := s.control.straps.number
    let source := frameSource s.line.rx.bytes
    let payload := framePayload s.line.rx.bytes
    let ended := { s.line with phase := .idle, rx := .empty, response := none, echoWait := false }
    (∀ (levels : List Nat) (m : Maintenance) (silent : Bool),
      s.line.phase = .window ∨ s.line.phase = .response ∧ s.line.rx.opening = some .long
        ∧ responseBroken (bitTime s.control.straps.rate) .long levels = false →
      frameKind s.line.rx.bytes = some .command → source = 15 → frameTarget s.line.rx.bytes = number →
      s.handler.prepared = some ⟨some m, silent⟩ →
      (silent = false ∧ ∃ b, s.line.response = some ⟨b, true, false⟩)
        ∨ (silent = false ∧ ∃ b, s.line.response = some ⟨b, true, true⟩)
        ∨ (silent = true ∧ s.line.response = none) →
      Completes (.endOfFrame dt levels) s fun t =>
        t.line = ended
        ∧ t.handler = { s.handler with
            prepared := none
            due := if s.line.response.any ResponseDrive.stopped then s.handler.due else some m }
        ∧ Elsewhere [.line, .handler] dt s t)
    ∧ (∀ (cal : Calibration) (theirs : BitVec 16), s.line.phase = .window → s.line.response = none →
      frameKind s.line.rx.bytes = some .status → (byteAt payload 0).toNat / 32 = 0 →
      s.control.calibration = some cal → source ≠ number → source ∉ s.control.mismatch →
      (byteAt payload 3).getLsbD 7 = true → theirs = BitVec.ofNat 16 (fieldAt payload 6 2) →
      s.line.txq.length < 8 →
      Completes (.endOfFrame dt []) s fun t =>
        (theirs ≠ cal.checksum →
          t.control = { s.control with
            mismatch := s.control.mismatch ++ [source], fault := true
            sense := some ⟨.siteMismatch, 0, some source, s.now + dt⟩ }
          ∧ ∃ f, f.kind = .report ∧ t.line = { ended with txq := insertFrame f s.line.txq }
            ∧ f.bytes = frameBytes number .report
                (5 :: byteOf source.toNat :: be16 cal.checksum.toNat ++ be16 theirs.toNat ++ [0, 0, 0]))
        ∧ (theirs = cal.checksum → Part.control.same s t ∧ t.line = ended)
        ∧ t.handler = { s.handler with prepared := none } ∧ Elsewhere [.line, .control, .handler] dt s t)
    ∧ (∀ k, s.line.phase = .window → s.line.response = none → frameKind s.line.rx.bytes = some k →
      k = .sense ∨ k = .report ∨ k = .verdict → source = number → number ≠ 15 → s.admission.claims = [] →
      Completes (.endOfFrame dt []) s fun t =>
        (s.line.state ≠ .listenOnly →
          t.line = { ended with state := .listenOnly, isolationTimer := none, isolationFrame := none }
          ∧ t.control = { s.control with
              fault := true, sense := some ⟨.identity, 0, some number, s.now + dt⟩ })
        ∧ (s.line.state = .listenOnly → t.line = ended ∧ Part.control.same s t)
        ∧ t.handler = { s.handler with prepared := none } ∧ Elsewhere [.line, .control, .handler] dt s t)

/-- While the HOLD demand stands in place of a frame of this station, no fault, loss, error, end of data
or end of frame ends or counts that frame (R138). HOLD_TAKEN (R137, R145): the HOLD is counted once, the
assembly is discarded, the reply in preparation is dropped, closure is HELD, and a frame in flight is no
longer on the line and stays queued. With claims held, from a state that keeps R89, every claim ends (that
no pre-check comes between the claim in flight and the others is log 40): with closure not HELD and none
late-marked, their frame leaves the queue, each vehicle is finished as DIVERT_CLOSED in queue order, with its
VERDICT, and the sign hold runs (R84, R89, R77, R149).
LINE_RECESSIVE_NOTICE ends the HOLD: HELD is left for REOPENING, for the whole reopen time, if CLOSE_IN is
deasserted, and stays if it is asserted (R145). -/
def Obligations.HoldClosesAndReleaseReopens : Prop :=
  (∀ (s : State) (dt : Time) (x : InFlight) (c : Instr) (cell : Nat) (bytes : List Byte) (levels : List Nat),
    s.line.inFlight = some x → x.stopped = true → s.line.holdDemand = true →
    c ∈ [Instr.noEchoFault dt, .arbitrationLoss dt cell, .bitError dt cell, .endOfData dt bytes,
         .endOfFrame dt levels, .lineIdle dt] →
    Completes c s fun t => Elsewhere [] dt s t)
  ∧ (∀ (s : State) (dt : Time), s.line.phase ≠ .hold → s.admission.claims = [] →
    (∀ x, s.line.inFlight = some x → x.frame.kind ≠ .claim ∧ x.frame.use ≠ .isolation) →
    Completes (.holdTaken dt) s fun t =>
      t.counters = { s.counters with holdEvents := bump s.counters.holdEvents }
      ∧ t.line = { s.line with phase := .hold, rx := .empty, response := none, inFlight := none }
      ∧ t.handler = { s.handler with prepared := none }
      ∧ t.sign.closure = .held
      ∧ (s.sign.closure ≠ .held → t.sign.reopenTimer = none)
      ∧ Part.sign.same { s with sign := { s.sign with closure := .held, reopenTimer := t.sign.reopenTimer } } t
      ∧ Elsewhere [.counters, .line, .sign, .handler] dt s t)
  ∧ (∀ (s : State) (dt : Time), s.line.phase ≠ .hold → s.ClosureSound →
    Completes (.holdTaken dt) s fun t =>
      t.admission.claims = [] ∧ t.sign.closure = .held ∧ t.line.phase = .hold ∧ t.span = s.span)
  ∧ (∀ (s : State) (dt : Time), s.line.phase ≠ .hold → s.sign.closure ≠ .held → s.admission.claims ≠ [] →
    (∀ c ∈ s.admission.claims, c.lateMark = none) → (s.admission.claims.map fun c => c.vehicle.tag).Nodup →
    s.line.txq.length + s.admission.claims.length ≤ 8 →
    (∀ f ∈ s.line.txq, f.kind = .claim →
      ∃ c ∈ s.admission.claims, c.state = .offeredQueued ∨ c.state = .offeredInFlight) →
    (∀ x, s.line.inFlight = some x → x.frame.use ≠ .isolation ∧ (x.frame.kind = .claim →
      ∃ c ∈ s.admission.claims.head?, c.state = .offeredInFlight)) →
    let finished := fun c : Claim =>
      { c.vehicle with outcome := some VehicleOutcome.divertClosed, lastObjection := c.lastObjection }
    let hold := s.now + dt + BitVec.ofNat 32 (s.signHold * 1000)
    Completes (.holdTaken dt) s fun t =>
      t.admission = { s.admission with claims := [] }
      ∧ (∃ verdicts : List TxFrame,
          verdicts.map TxFrame.bytes = s.admission.claims.map (fun c =>
            frameBytes s.control.straps.number .verdict (verdictPayload (finished c)))
          ∧ (∀ v ∈ verdicts, v.kind = .verdict)
          ∧ t.line = { s.line with
              phase := .hold, rx := .empty, response := none, inFlight := none
              txq := s.line.txq.filter (fun g => g.kind ≠ .claim) ++ verdicts })
      ∧ t.assembler = { s.assembler with history := s.assembler.history.map fun h =>
          match (s.admission.claims.find? fun c => c.vehicle.tag = h.tag) with
          | some c => { h with outcome := some .divertClosed, lastObjection := c.lastObjection }
          | none => h }
      ∧ t.counters = { s.counters with holdEvents := bump s.counters.holdEvents }
      ∧ t.handler = { s.handler with prepared := none }
      ∧ Part.sign.same { s with sign := { s.sign with
          closure := .held, reopenTimer := none
          holdUntil := some ((s.sign.holdUntil.map fun h => later h hold).getD hold) } } t
      ∧ Elsewhere [.assembler, .admission, .counters, .line, .sign, .handler] dt s t)
  ∧ (∀ (s : State) (dt : Time), s.line.phase = .hold → s.sign.closure = .held →
    Completes (.lineRecessiveNotice dt) s fun t =>
      t.line = { s.line with phase := .seeking }
      ∧ (s.sign.closeIn = false → Part.sign.same { s with sign := { s.sign with
            closure := .reopening
            reopenTimer := some (s.now + dt + BitVec.ofNat 32 (s.reopenTime * 1000)) } } t)
      ∧ (s.sign.closeIn = true → Part.sign.same s t)
      ∧ Elsewhere [.line, .sign] dt s t)

/-- Every step keeps a transmit queue ordered by kind code so (R135). A frame joins after every frame of
the same or a lower kind code: the queue then holds the same frames and the new one, in arrival order
within a kind. A frame that comes to a full queue (R136): a VERDICT or REPORT is discarded; any other
displaces the youngest VERDICT or REPORT not in flight, by arrival, and is discarded where there is none.
Each discard or displacement is one transmit-queue drop, and a replay frame discarded ends its replay
(R170). -/
def Obligations.TransmitQueueIsOrderedByKind : Prop :=
  (∀ s t : State, s.line.txq.Pairwise (fun a b => a.kind.code ≤ b.kind.code) → step s = .next t →
    t.line.txq.Pairwise (fun a b => a.kind.code ≤ b.kind.code))
  ∧ (∀ (f : TxFrame) (queue : List TxFrame), queue.Pairwise (fun a b => a.kind.code ≤ b.kind.code) →
    (insertFrame f queue).Pairwise (fun a b => a.kind.code ≤ b.kind.code)
      ∧ (insertFrame f queue).Perm (f :: queue)
      ∧ ∀ k, (insertFrame f queue).filter (fun g => g.kind = k) =
          queue.filter (fun g => g.kind = k) ++ if f.kind = k then [f] else [])
  ∧ ∀ (s : State) (kind : FrameKind) (use : FrameUse) (payload : List Byte), 8 ≤ s.line.txq.length →
    let dropped := { s.counters with txDrops := bump s.counters.txDrops }
    let givesWay := fun g : TxFrame => (g.kind = .verdict ∨ g.kind = .report)
      ∧ ∀ x, s.line.inFlight = some x → x.frame.arrival ≠ g.arrival
    (kind = .verdict ∨ kind = .report ∨ (∀ g ∈ s.line.txq, ¬ givesWay g) →
      s.putFrame kind use payload =
        ({ s with counters := dropped
                  handler := if use = .replay then { s.handler with replay := none } else s.handler }, none))
    ∧ ∀ d ∈ s.line.txq, kind ≠ .verdict → kind ≠ .report → givesWay d →
      (∀ g ∈ s.line.txq, givesWay g → g ≠ d → g.arrival < d.arrival) →
      ∃ f, f.kind = kind ∧ f.use = use ∧ f.bytes = frameBytes s.control.straps.number kind payload
        ∧ s.putFrame kind use payload =
          ({ s with counters := dropped
                    line := { s.line with txq := insertFrame f (s.line.txq.erase d) } }, some d)

/-- A frame built by R124 for a station numbered 0 to 14, with a payload of its kind's length and with its
reserved fields clear, passes the three checks of R125, and its kind, source and payload read back. A
CLAIM's payload read back gives the vehicle's and the claim's values (12.3, R78). -/
def Obligations.FramesReadBackAsBuilt : Prop :=
  (∀ (number : StationNo) (kind : FrameKind) (payload : List Byte),
    number ≠ 15 → kind ≠ .command → payload.length = kind.payloadLength →
    reservedOk kind payload = true →
    frameError (frameBytes number kind payload) = none
      ∧ frameKind (frameBytes number kind payload) = some kind
      ∧ frameSource (frameBytes number kind payload) = number
      ∧ framePayload (frameBytes number kind payload) = payload)
  ∧ ∀ (r : VehicleRecord) (dwell : Nat) (entryEnd : SpanEnd),
    r.axleCount ≤ 15 → r.assessedGross ≤ 65535 → r.measuredGross ≤ 65535 → dwell ≤ 65535 →
    claimPayloadOf (claimPayload r dwell entryEnd) =
      { tag := r.tag, axleCount := r.axleCount, assessedGross := r.assessedGross,
        measuredGross := r.measuredGross, dwell, entryEnd, degraded := r.flags.degraded,
        split := r.flags.split }

/-! ## Closure and Sign Controller (09) -/

/-- CLOSE_IN_EDGE and CLOSE_IN_DEBOUNCED (R143 to R145). A change of the raw level starts the 20 ms afresh.
Once they have passed, the debounced level follows: asserted, it puts closure at HELD and, unless FAILED,
sets the HOLD demand, which stops a frame or response on the line (R138); released, it clears the demand
and leaves HELD for REOPENING if the line is free. -/
def Obligations.CloseInActsAfterItsDebounce : Prop :=
  (∀ (s : State) (dt : Time) (level : Bool), s.sign.rawCloseIn ≠ level →
    Completes (.closeInEdge dt level) s fun t =>
      Part.sign.same { s with sign := { s.sign with rawCloseIn := level, rawSince := s.now + dt } } t
      ∧ Elsewhere [.sign] dt s t)
  ∧ (∀ (s : State) (dt : Time), s.sign.rawCloseIn = true → s.sign.closeIn = false →
    reached (s.now + dt) (s.sign.rawSince + 20) → s.sign.closure ≠ .held → s.admission.claims = [] →
    Completes (.closeInDebounced dt) s fun t =>
      Part.sign.same { s with sign := { s.sign with closeIn := true, closure := .held, reopenTimer := none } } t
      ∧ (s.control.mode = .failed → t.line = s.line)
      ∧ (s.control.mode ≠ .failed → t.line = { s.line with
          holdDemand := true
          inFlight := s.line.inFlight.map fun x => { x with stopped := true }
          response := s.line.response.map fun r => { r with stopped := true } })
      ∧ Elsewhere [.sign, .line] dt s t)
  ∧ (∀ (s : State) (dt : Time), s.sign.rawCloseIn = false → s.sign.closeIn = true →
    reached (s.now + dt) (s.sign.rawSince + 20) → s.sign.closure = .held →
    Completes (.closeInDebounced dt) s fun t =>
      t.line = { s.line with holdDemand := false }
      ∧ (s.line.phase = .hold → Part.sign.same { s with sign := { s.sign with closeIn := false } } t)
      ∧ (s.line.phase ≠ .hold → Part.sign.same { s with sign := { s.sign with
            closeIn := false, closure := .reopening
            reopenTimer := some (s.now + dt + BitVec.ofNat 32 (s.reopenTime * 1000)) } } t)
      ∧ Elsewhere [.sign, .line] dt s t)

/-- REOPEN_TIMER_EXPIRY returns closure to OPEN and clears the long-hold flag (R145, R147);
LONG_HOLD_TIMER sets the flag after 60 s (R147); HOLD_UNTIL_REACHED ends the sign hold (R149). -/
def Obligations.SignTimersExpire : Prop :=
  (∀ (s : State) (dt finish : Time), s.sign.closure = .reopening → s.sign.reopenTimer = some finish →
    reached (s.now + dt) finish →
    Completes (.reopenTimerExpiry dt) s fun t =>
      Part.sign.same { s with sign := { s.sign with closure := .opened, reopenTimer := none, longHold := false } } t
      ∧ Elsewhere [.sign] dt s t)
  ∧ (∀ (s : State) (dt start : Time), s.sign.longHoldTimer = some start →
    reached (s.now + dt) (start + 60000) →
    Completes (.longHoldTimer dt) s fun t =>
      Part.sign.same { s with sign := { s.sign with longHold := true } } t ∧ Elsewhere [.sign] dt s t)
  ∧ (∀ (s : State) (dt finish : Time), s.sign.holdUntil = some finish → reached (s.now + dt) finish →
    Completes (.holdUntilReached dt) s fun t =>
      Part.sign.same { s with sign := { s.sign with holdUntil := none } } t ∧ Elsewhere [.sign] dt s t)

/-- LAMP_FEEDBACK_CHANGE on the DIVERT lamp, checked by R151 (R150): agreement clears the fault mark and
stops the timer; a disagreement of a new kind starts the timer from this moment, and one of the same kind
lets it run. The other lamp's feedback is as it was. LAMP_DISAGREEMENT_EXPIRY after 500 ms (R150): the
lamp's fault mark is set, SIGN_FAULT is raised with the detail that names the lamp and the kind, and a
REPORT SIGN_FAULT with it is queued. -/
def Obligations.LampDisagreementsAreTimedAndReported : Prop :=
  (∀ (s : State) (dt : Time) (current : Bool), s.lampCheck = true →
    Completes (.lampFeedbackChange dt .divert current) s fun t =>
      Part.sign.same { s with sign := { s.sign with divert := { s.sign.divert with current } } } t
      ∧ (s.divertCommand = current → t.sign.divert.mark = false ∧ t.sign.divert.timer = none)
      ∧ (s.divertCommand ≠ current →
          let kind := if current = true then Disagreement.lit else .dark
          t.sign.divert.mark = s.sign.divert.mark
          ∧ ∃ timer, t.sign.divert.timer = some timer ∧ timer.kind = kind
            ∧ (s.sign.divert.timer = none → timer.start = s.now + dt)
            ∧ (∀ old, s.sign.divert.timer = some old → old.kind = kind → timer = old)
            ∧ (∀ old, s.sign.divert.timer = some old → old.kind ≠ kind → timer.start = s.now + dt))
      ∧ Elsewhere [.sign] dt s t)
  ∧ (∀ (s : State) (dt : Time) (lamp : Lamp) (timer : LampTimer) (detail : Byte),
    s.lampCheck = true → (s.sign.lamp lamp).timer = some timer → (s.sign.lamp lamp).mark = false →
    reached (s.now + dt) (timer.start + 500) →
    disagreement (match lamp with | .divert => s.divertCommand | .closed => s.closedCommand)
      (s.sign.lamp lamp).current = some timer.kind →
    s.control.sense = none → s.line.txq.length < 8 →
    detail = (match lamp, timer.kind with
      | .divert, .dark => 1 | .divert, .lit => 2 | .closed, .dark => 3 | .closed, .lit => 4) →
    Completes (.lampDisagreementExpiry dt lamp) s fun t =>
      (t.sign.lamp lamp).mark = true
      ∧ t.control = { s.control with fault := true, sense := some ⟨.signFault, detail, none, s.now + dt⟩ }
      ∧ (∃ f, f.kind = .report
          ∧ f.bytes = frameBytes s.control.straps.number .report [3, detail, 0, 0, 0, 0, 0, 0, 0]
          ∧ t.line = { s.line with txq := insertFrame f s.line.txq })
      ∧ Elsewhere [.control, .line] dt s t)

/-! ## Station Control (10) -/

/-- POWER_ON (R163): station time 0, the straps as sampled, the start sequence at its self-test, and every
block at its power-on value; the queue of commands stands. RESTART once it is due (R163, R165, log 8): the
same, but for the counters, the history ring, the tag counter and the three 8-bit counts, which are kept,
and the head-wait limit of a restart. That the raw CLOSE_IN level and both lamp feedbacks stand through a
start, and that the debounce counts from 0, is the model's choice (log 25). -/
def Obligations.StartsBeginFromPowerOnValues : Prop :=
  (∀ (s : State) (pins : Straps),
    Completes (.powerOn pins) s fun t =>
      t.now = 0 ∧ t.pending = s.pending
      ∧ t.control = { StationControl.reset with
          straps := pins, startStep := .selfTest
          mask := { SelfTestMask.clear with strap := decide (pins.number = 15) } }
      ∧ t.counters = .zero ∧ t.port = .reset ∧ t.detector = .reset ∧ t.former = .reset
      ∧ t.assembler = .reset ∧ t.admission = .reset ∧ t.span = .reset ∧ t.line = .reset
      ∧ t.handler = .reset
      ∧ t.sign = { SignControl.reset with
          rawCloseIn := s.sign.rawCloseIn
          divert := { command := true, current := s.sign.divert.current, mark := false, timer := none }
          closed := { command := false, current := s.sign.closed.current, mark := false, timer := none } })
  ∧ (∀ (s : State) (pins : Straps), s.handler.due = some .restart →
    Completes (.restart pins) s fun t =>
      t.now = 0 ∧ t.pending = s.pending
      ∧ t.control = { StationControl.reset with
          straps := pins, startStep := .selfTest, restarted := true, lostSense := s.control.lostSense
          mask := { SelfTestMask.clear with strap := decide (pins.number = 15) } }
      ∧ t.counters = s.counters ∧ t.port = .reset ∧ t.detector = .reset ∧ t.former = .reset
      ∧ t.assembler = { Assembler.reset with
          history := s.assembler.history, tagCounter := s.assembler.tagCounter }
      ∧ t.admission = .reset
      ∧ t.span = { SpanTable.reset with duplicates := s.span.duplicates, lost := s.span.lost }
      ∧ t.line = .reset ∧ t.handler = .reset
      ∧ t.sign = { SignControl.reset with
          rawCloseIn := s.sign.rawCloseIn
          divert := { command := true, current := s.sign.divert.current, mark := false, timer := none }
          closed := { command := false, current := s.sign.closed.current, mark := false, timer := none } })

/-- SELF_TEST (R154, R155), with no claim held and nothing pending. With no failure the head wait follows,
or at once the calibration step if the head is READY (R156). With a memory, LINE_LOOP or STRAP bit set
the station is FAILED: SELF_TEST is raised with the mask, the Span Table and the queue are emptied, the
HOLD demand clears, and one STATUS page 0 of the state entered is queued unless STRAP or LINE_LOOP is set;
a frame or response on the line is driven no further (log 16). HEAD_WAIT_LIMIT (R156): 40 s after a
power-on, 5 s after a RESTART, HEAD is set, HEAD_ABSENT is raised and the start goes on to its calibration. -/
def Obligations.SelfTestAndHeadWaitGoOn : Prop :=
  (∀ (s : State) (dt : Time) (f : SelfTestFailures),
      s.control.mode = .starting → s.control.startStep = .selfTest → s.admission.claims = [] →
      s.control.sense = none →
      let mask := { s.control.mask with
        memTable := f.memTable, memHistory := f.memHistory, memQueue := f.memQueue, lineLoop := f.lineLoop }
      let fails := f.memTable || f.memHistory || f.memQueue || f.lineLoop || s.control.mask.strap
      let cut := { s.line with
        txq := [], holdDemand := false, inFlight := none
        rx := { s.line.rx with own := s.line.rx.own && s.line.inFlight.isNone }
        response := s.line.response.map fun r => { r with stopped := true } }
      (fails = false →
        Completes (.selfTest dt f) s fun t =>
          t.control = { s.control with
            mask, fault := false, startStep := if s.port.head = .ready then .calibration else .headWait }
          ∧ Elsewhere [.control] dt s t)
      ∧ (fails = true →
        (∀ x, s.line.inFlight = some x → x.frame.kind ≠ .claim ∧ x.frame.use ≠ .isolation) →
        Completes (.selfTest dt f) s fun t =>
          t.control = { s.control with
            mask, mode := .failed, fault := true, sense := some ⟨.selfTest, mask.toByte, none, s.now + dt⟩ }
          ∧ t.span = { s.span with entries := [], sum := 0, count := 0 }
          ∧ t.handler = { s.handler with replay := none }
          ∧ ((s.control.mask.strap || f.lineLoop) = true →
              t.line = cut)
          ∧ ((s.control.mask.strap || f.lineLoop) = false → ∃ g, g.kind = .status ∧ g.use = .failedStatus
              ∧ g.bytes = frameBytes s.control.straps.number .status t.statusPage0
              ∧ t.line = { cut with txq := [g] })
          ∧ Elsewhere [.control, .span, .line, .handler] dt s t))
  ∧ (∀ (s : State) (dt : Time), s.control.startStep = .headWait → s.port.head = .absent →
      reached (s.now + dt) (if s.control.restarted = true then 5000 else 40000) → s.control.sense = none →
      Completes (.headWaitLimit dt) s fun t =>
        t.control = { s.control with
          mask := { s.control.mask with head := true }, startStep := .calibration, fault := true
          sense := some ⟨.headAbsent, 0, none, s.now + dt⟩ }
        ∧ Elsewhere [.control] dt s t)

/-- CALIBRATION_LOAD_BEGIN and CALIBRATION_RETRY (R157, R160), with the lane empty and no load in flight:
the start load in its step; an accepted RELOAD once the claim queue is empty and no record waits for
acceptance (a record that waits is accepted first: the model's choice, log 42); a retry while calibration
is ABSENT, 30 s after the last load's end. -/
def Obligations.LoadsBeginOnAnEmptyLane : Prop :=
  ∀ (s : State) (dt : Time), s.control.load = none → s.assembler.vehicle = none →
    (∃ dn, s.former = { openA := none, openB := none, waitingB := [], pendingA := [], lastDn := dn }) →
    (s.control.mode ≠ .failed → s.control.startStep = .calibration →
      Completes (.calibrationLoadBegin dt) s fun t =>
        Part.control.same { s with control := { s.control with load := some ⟨.start, s.now + dt⟩ } } t
        ∧ Elsewhere [.control] dt s t)
    ∧ (s.control.mode ≠ .failed → s.control.startStep ≠ .calibration → s.control.reloadAsked = true →
      s.admission.claims = [] → s.admission.waiting = none →
      Completes (.calibrationLoadBegin dt) s fun t =>
        Part.control.same { s with control := { s.control with
          load := some ⟨.reload, s.now + dt⟩, reloadAsked := false } } t
        ∧ Elsewhere [.control] dt s t)
    ∧ (∀ ended, s.control.mode = .learning ∨ s.control.mode = .active → s.control.calibration = none →
      s.control.lastLoadEnd = some ended → reached (s.now + dt) (ended + 30000) →
      Completes (.calibrationRetry dt) s fun t =>
        Part.control.same { s with control := { s.control with load := some ⟨.retry, s.now + dt⟩ } } t
        ∧ Elsewhere [.control] dt s t)

/-- CALIBRATION_LOAD_END and CAL_MEMORY_TIMEOUT (R157 to R162, R106), with no claim held, nothing pending
and room in the queue. A valid record's sections are in force; a check that fails, or a memory that is
silent for 50 ms, counted from the load's beginning (the model's choice, log 29), leaves ABSENT and is
raised, but not by a retry that ends as the load before it. A start load ends in LEARNING, for the dwell
cap or for 600 s, with the STATUS page 0 of that state queued. A RELOAD or a retry that ends LOADED during
learning moves the end of learning to the later of its present end and the start plus the new cap; a
RELOAD that ends LOADED queues a STATUS page 0. -/
def Obligations.LoadsEndLoadedOrAbsent : Prop :=
  ∀ (s : State) (dt : Time) (c : Instr) (kind : LoadKind) (since : Time) (cal : Option Calibration)
    (raised : Option (SenseCode × Byte)) (silent : Bool),
    s.control.load = some ⟨kind, since⟩ → s.admission.claims = [] → s.control.sense = none →
    s.line.txq.length < 8 →
    (∃ record : List Byte, record.length = 158 ∧ c = .calibrationLoadEnd dt record ∧ silent = false
        ∧ (calibrationFailure record = none ∧ cal = some (calibrationOf record) ∧ raised = none
          ∨ ∃ n, calibrationFailure record = some n ∧ cal = none ∧ raised = some (.calInvalid, byteOf n)))
      ∨ (c = .calMemoryTimeout dt ∧ reached (s.now + dt) (since + 50) ∧ silent = true ∧ cal = none
          ∧ raised = some (.calPort, 0)) →
    let learning := match s.control.mode, s.control.learning, cal with
      | .learning, some l, some new =>
        some { l with finish := later l.finish (l.start + BitVec.ofNat 32 (new.site.dwellCap * 100)) }
      | _, l, _ => l
    let ended := { s.control with
      calibration := cal, load := none, lastLoadEnd := some (s.now + dt), lastLoadResult := raised
      mask := { s.control.mask with calPort := silent }
      learning := learning
      sense := raised.map fun r => ⟨r.1, r.2, none, s.now + dt⟩ }
    let cap := match cal with
      | some l => l.site.dwellCap * 100
      | none => 600000
    let statusQueued := fun t : State => ∃ f, f.kind = .status
      ∧ f.bytes = frameBytes s.control.straps.number .status t.statusPage0
      ∧ t.line = { s.line with txq := insertFrame f s.line.txq }
    (kind = .start →
      Completes c s fun t =>
        Part.control.same { s with control := { ended with
          mode := .learning, startStep := .done
          learning := some { start := s.now + dt, finish := s.now + dt + BitVec.ofNat 32 cap } } } t
        ∧ statusQueued t ∧ Elsewhere [.control, .line] dt s t)
    ∧ (kind = .reload →
      Completes c s fun t =>
        Part.control.same { s with control := ended } t
        ∧ (cal = none → t.line = s.line) ∧ (cal ≠ none → statusQueued t)
        ∧ Elsewhere [.control, .line] dt s t)
    ∧ (kind = .retry → s.control.lastLoadResult ≠ raised ∨ raised = none →
      Completes c s fun t =>
        Part.control.same { s with control := ended } t ∧ Elsewhere [.control] dt s t)
    ∧ (kind = .retry → s.control.lastLoadResult = raised →
      Completes c s fun t =>
        Part.control.same { s with control := { ended with sense := none } } t ∧ Elsewhere [.control] dt s t)

/-! ## Command Handler (11) -/

/-- END_OF_DATA of a COMMAND for this station, received good, on a NORMAL line with no HOLD demand (R164):
its reply, a long symbol's two bytes (R134), by the first row that applies. REJECT to a bad request; BUSY
while STARTING, then CHECK while a sense record pends, to all but STATUS_PAGE and SENSE; BUSY to a RELOAD on
a lane in use, with a claim or a load; BUSY to a READ_VEHICLE in a replay, REJECT without a record of its
tag; BUSY where the frame promised finds no room (R136); ACK otherwise, with the command to run. A FAILED
station ACKs a RESTART and answers nothing else; that this RESTART must carry argument zero is log 9. -/
def Obligations.CommandsDrawTheirReplies : Prop :=
  ∀ (s : State) (dt : Time) (bytes : List Byte),
    s.line.phase = .frame → s.line.rx.own = false → s.line.rx.firstError = none → bytes.length ≤ 13 →
    frameKind bytes = some .command → frameError bytes = none →
    frameTarget bytes = s.control.straps.number → s.line.state = .normal → s.line.holdDemand = false →
    s.line.response = none →
    let request := requestOf (framePayload bytes)
    let replies := fun (code : Nat) (command : Option Maintenance) =>
      Completes (.endOfData dt bytes) s fun t =>
        let b := byteOf (16 * code + s.control.straps.number.toNat)
        t.line = { s.line with
          phase := .window
          rx := { bytes, firstError := none, own := false, good := true, opening := none }
          response := some { bytes := [b, crc8 [b]], isReply := true, stopped := false } }
        ∧ t.handler = { s.handler with prepared := some { command, silent := false } }
        ∧ Elsewhere [.line, .handler] dt s t
    let givesWay := fun f : TxFrame => f.kind = .verdict ∨ f.kind = .report
    let room := s.line.txq.length < 8 ∨ s.line.inFlight = none ∧ ∃ f ∈ s.line.txq, givesWay f
    let full := 8 ≤ s.line.txq.length ∧ ∀ f ∈ s.line.txq, ¬ givesWay f
    (s.control.mode = .failed → request = some .restart → replies 1 (some .restart))
    ∧ (s.control.mode = .failed → request ≠ some .restart →
      Completes (.endOfData dt bytes) s fun t =>
        t.line = { s.line with
          phase := .window
          rx := { bytes, firstError := none, own := false, good := true, opening := none } }
        ∧ Elsewhere [.line] dt s t)
    ∧ (s.control.mode ≠ .failed → request = none → replies 4 none)
    ∧ (∀ page, s.control.mode ≠ .failed → request = some (.statusPage page) →
        (room → replies 1 (some (.statusPage page))) ∧ (full → replies 2 none))
    ∧ (s.control.mode ≠ .failed → request = some .sense →
        (room → replies 1 (some .sense)) ∧ (full → replies 2 none))
    ∧ (∀ q, s.control.mode = .starting → request = some q → q.alwaysServed = false → replies 2 none)
    ∧ (∀ q, s.control.mode = .learning ∨ s.control.mode = .active → request = some q →
        q.alwaysServed = false → s.control.sense ≠ none → replies 3 none)
    ∧ (s.control.mode = .learning ∨ s.control.mode = .active → s.control.sense = none →
        (request = some .restart → replies 1 (some .restart))
        ∧ (request = some .clearCounters → replies 1 (some .clearCounters))
        ∧ (request = some .reload →
            (s.assembler.vehicle ≠ none ∨ s.former.isEmpty = false ∨ s.admission.claims ≠ []
              ∨ s.control.load ≠ none → replies 2 none)
            ∧ (s.assembler.vehicle = none → s.former.isEmpty = true → s.admission.claims = [] →
                s.control.load = none → replies 1 (some .reload)))
        ∧ (∀ tag, request = some (.readVehicle tag) →
            (s.handler.replay ≠ none → replies 2 none)
            ∧ (s.handler.replay = none → (∀ r ∈ s.assembler.history, r.tag ≠ tag) → replies 4 none)
            ∧ (∀ before r after, s.handler.replay = none → s.assembler.history = before ++ r :: after →
                r.tag = tag → (∀ b ∈ before, b.tag ≠ tag) →
                (s.line.txq.length < 8 → replies 1 (some (.readVehicle r)))
                ∧ (8 ≤ s.line.txq.length → replies 2 none))))

/-- STATUS_PAGE and SENSE, once due (log 8) and with room in the queue (R165 to R167): the frame joins the
queue with the page's or the record's content as it stands, and SENSE clears the pending record. In a full
queue the frame displaces the youngest VERDICT or REPORT not in flight (R136), here with no claim held and
no replay frame displaced. RELOAD,
once due, asks for a load (R165, R157); CLEAR_COUNTERS, once due, zeroes the counters of pages 1 to 4, the
duplicates and lost-entries counts and the lost-sense count (R165). -/
def Obligations.AcknowledgedCommandsRun : Prop :=
  (∀ (s : State) (dt : Time), s.line.txq.length < 8 →
    (∀ page, s.handler.due = some (.statusPage page) →
      Completes (.statusPage dt) s fun t =>
        (∃ f, f.kind = .status
          ∧ f.bytes = frameBytes s.control.straps.number .status (s.statusPayload page)
          ∧ t.line = { s.line with txq := insertFrame f s.line.txq })
        ∧ t.handler = { s.handler with due := none } ∧ Elsewhere [.line, .handler] dt s t)
    ∧ (s.handler.due = some .sense →
      Completes (.sense dt) s fun t =>
        (∃ f, f.kind = .sense ∧ f.bytes = frameBytes s.control.straps.number .sense s.sensePayload
          ∧ t.line = { s.line with txq := insertFrame f s.line.txq })
        ∧ Part.control.same { s with control := { s.control with sense := none } } t
        ∧ t.handler = { s.handler with due := none } ∧ Elsewhere [.line, .handler, .control] dt s t))
  ∧ (∀ (s : State) (dt : Time) (d : TxFrame), 8 ≤ s.line.txq.length → s.admission.claims = [] →
    let givesWay := fun g : TxFrame => (g.kind = .verdict ∨ g.kind = .report)
      ∧ ∀ x, s.line.inFlight = some x → x.frame.arrival ≠ g.arrival
    d ∈ s.line.txq → givesWay d → d.use ≠ .replay →
    (∀ g ∈ s.line.txq, givesWay g → g ≠ d → g.arrival < d.arrival) →
    let displaced := fun (t : State) (kind : FrameKind) (payload : List Byte) =>
      (∃ f, f.kind = kind ∧ f.bytes = frameBytes s.control.straps.number kind payload
        ∧ t.line = { s.line with txq := insertFrame f (s.line.txq.erase d) })
      ∧ t.counters = { s.counters with txDrops := bump s.counters.txDrops }
      ∧ t.handler = { s.handler with due := none }
    (∀ page, s.handler.due = some (.statusPage page) →
      Completes (.statusPage dt) s fun t =>
        displaced t .status (s.statusPayload page) ∧ Elsewhere [.line, .counters, .handler] dt s t)
    ∧ (s.handler.due = some .sense →
      Completes (.sense dt) s fun t =>
        displaced t .sense s.sensePayload
        ∧ Part.control.same { s with control := { s.control with sense := none } } t
        ∧ Elsewhere [.line, .counters, .handler, .control] dt s t))
  ∧ (∀ (s : State) (dt : Time), s.handler.due = some .reload →
    Completes (.reload dt) s fun t =>
      Part.control.same { s with control := { s.control with reloadAsked := true } } t
      ∧ t.handler = { s.handler with due := none } ∧ Elsewhere [.control, .handler] dt s t)
  ∧ (∀ (s : State) (dt : Time), s.handler.due = some .clearCounters →
    Completes (.clearCounters dt) s fun t =>
      t.counters = .zero ∧ t.span = { s.span with duplicates := 0, lost := 0 }
      ∧ Part.control.same { s with control := { s.control with lostSense := 0 } } t
      ∧ t.handler = { s.handler with due := none }
      ∧ Elsewhere [.counters, .span, .control, .handler] dt s t)

/-- READ_VEHICLE, once due (log 8) and with room in the queue (R170): a replay of 1 + 2k frames begins, with
k = ceil(n / 3) for a list of n axles. Its VERDICT is queued now, and held back in this order are the
REPORT AXLES frames of parts 0 to k − 1 with the loads of axles 3p + 1 to 3p + 3, then those of parts 4 to
3 + k with their spacings; beyond the end of the list, and for a value that is absent (the first axle's
spacing), a field is 0. Where the queue is full by then, the VERDICT is discarded and counted and the replay is
over (R136, R170), here with no claim held. -/
def Obligations.ReplayBeginsWithItsVerdict : Prop :=
  ∀ (s : State) (dt : Time) (r : VehicleRecord), s.handler.due = some (.readVehicle r) →
    let parts := (r.axles.length + 2) / 3
    let frame := fun (part : Nat) (value : Nat → Nat) (p : Nat) =>
      ({ kind := .report
         payload := 4 :: be16 (16 * r.tag.toNat + part) ++ be16 (value (3 * p)) ++ be16 (value (3 * p + 1))
           ++ be16 (value (3 * p + 2)) } : ReplayFrame)
    let load := fun i : Nat => ((r.axles[i]?).bind Axle.load).getD 0
    let spacing := fun i : Nat => ((r.axles[i]?).bind Axle.spacing).getD 0
    (s.line.txq.length < 8 →
      Completes (.readVehicle dt) s fun t =>
        (∃ f, f.kind = .verdict ∧ f.use = .replay
          ∧ f.bytes = frameBytes s.control.straps.number .verdict (verdictPayload r)
          ∧ t.line = { s.line with txq := s.line.txq ++ [f] })
        ∧ t.handler = { s.handler with
            due := none
            replay := some ((List.range parts).map (fun p => frame p load p)
              ++ (List.range parts).map (fun p => frame (4 + p) spacing p)) }
        ∧ Elsewhere [.line, .handler] dt s t)
    ∧ (8 ≤ s.line.txq.length → s.admission.claims = [] →
      Completes (.readVehicle dt) s fun t =>
        t.counters = { s.counters with txDrops := bump s.counters.txDrops }
        ∧ t.handler = { s.handler with due := none, replay := none }
        ∧ Elsewhere [.counters, .handler] dt s t)
end

