-- ==== Sys2Proof/Laws/State.lean ====
section
/-! SUPPORT. What each named update of State leaves unchanged: one lemma for each update and each part it does not touch. -/

namespace Sys2Proof.Machine

/-! ### Time moves on (00 R1): `advance` -/

@[simp] theorem State.advance_control (s : State) (dt : Time) : (s.advance dt).control = s.control := rfl
@[simp] theorem State.advance_counters (s : State) (dt : Time) : (s.advance dt).counters = s.counters := rfl
@[simp] theorem State.advance_port (s : State) (dt : Time) : (s.advance dt).port = s.port := rfl
@[simp] theorem State.advance_detector (s : State) (dt : Time) : (s.advance dt).detector = s.detector := rfl
@[simp] theorem State.advance_former (s : State) (dt : Time) : (s.advance dt).former = s.former := rfl
@[simp] theorem State.advance_assembler (s : State) (dt : Time) : (s.advance dt).assembler = s.assembler := rfl
@[simp] theorem State.advance_admission (s : State) (dt : Time) : (s.advance dt).admission = s.admission := rfl
@[simp] theorem State.advance_span (s : State) (dt : Time) : (s.advance dt).span = s.span := rfl
@[simp] theorem State.advance_line (s : State) (dt : Time) : (s.advance dt).line = s.line := rfl
@[simp] theorem State.advance_sign (s : State) (dt : Time) : (s.advance dt).sign = s.sign := rfl
@[simp] theorem State.advance_handler (s : State) (dt : Time) : (s.advance dt).handler = s.handler := rfl
@[simp] theorem State.advance_pending (s : State) (dt : Time) : (s.advance dt).pending = s.pending := rfl

/-! ### A transmit-queue drop (08 R136): `countDrop` -/

@[simp] theorem State.countDrop_now (s : State) : (s.countDrop).now = s.now := rfl
@[simp] theorem State.countDrop_control (s : State) : (s.countDrop).control = s.control := rfl
@[simp] theorem State.countDrop_port (s : State) : (s.countDrop).port = s.port := rfl
@[simp] theorem State.countDrop_detector (s : State) : (s.countDrop).detector = s.detector := rfl
@[simp] theorem State.countDrop_former (s : State) : (s.countDrop).former = s.former := rfl
@[simp] theorem State.countDrop_assembler (s : State) : (s.countDrop).assembler = s.assembler := rfl
@[simp] theorem State.countDrop_admission (s : State) : (s.countDrop).admission = s.admission := rfl
@[simp] theorem State.countDrop_span (s : State) : (s.countDrop).span = s.span := rfl
@[simp] theorem State.countDrop_line (s : State) : (s.countDrop).line = s.line := rfl
@[simp] theorem State.countDrop_sign (s : State) : (s.countDrop).sign = s.sign := rfl
@[simp] theorem State.countDrop_handler (s : State) : (s.countDrop).handler = s.handler := rfl
@[simp] theorem State.countDrop_pending (s : State) : (s.countDrop).pending = s.pending := rfl

/-! ### The head claim changes (05 R79): `setHeadClaim` -/

@[simp] theorem State.setHeadClaim_now (s : State) (c : Claim) : (s.setHeadClaim c).now = s.now := rfl
@[simp] theorem State.setHeadClaim_control (s : State) (c : Claim) : (s.setHeadClaim c).control = s.control := rfl
@[simp] theorem State.setHeadClaim_counters (s : State) (c : Claim) : (s.setHeadClaim c).counters = s.counters := rfl
@[simp] theorem State.setHeadClaim_port (s : State) (c : Claim) : (s.setHeadClaim c).port = s.port := rfl
@[simp] theorem State.setHeadClaim_detector (s : State) (c : Claim) : (s.setHeadClaim c).detector = s.detector := rfl
@[simp] theorem State.setHeadClaim_former (s : State) (c : Claim) : (s.setHeadClaim c).former = s.former := rfl
@[simp] theorem State.setHeadClaim_assembler (s : State) (c : Claim) : (s.setHeadClaim c).assembler = s.assembler := rfl
@[simp] theorem State.setHeadClaim_span (s : State) (c : Claim) : (s.setHeadClaim c).span = s.span := rfl
@[simp] theorem State.setHeadClaim_line (s : State) (c : Claim) : (s.setHeadClaim c).line = s.line := rfl
@[simp] theorem State.setHeadClaim_sign (s : State) (c : Claim) : (s.setHeadClaim c).sign = s.sign := rfl
@[simp] theorem State.setHeadClaim_handler (s : State) (c : Claim) : (s.setHeadClaim c).handler = s.handler := rfl
@[simp] theorem State.setHeadClaim_pending (s : State) (c : Claim) : (s.setHeadClaim c).pending = s.pending := rfl

/-! ### One claim changes (05): `mapClaim` -/

@[simp] theorem State.mapClaim_now (s : State) (tag : Tag) (f : Claim → Claim) : (s.mapClaim tag f).now = s.now := rfl
@[simp] theorem State.mapClaim_control (s : State) (tag : Tag) (f : Claim → Claim) : (s.mapClaim tag f).control = s.control := rfl
@[simp] theorem State.mapClaim_counters (s : State) (tag : Tag) (f : Claim → Claim) : (s.mapClaim tag f).counters = s.counters := rfl
@[simp] theorem State.mapClaim_port (s : State) (tag : Tag) (f : Claim → Claim) : (s.mapClaim tag f).port = s.port := rfl
@[simp] theorem State.mapClaim_detector (s : State) (tag : Tag) (f : Claim → Claim) : (s.mapClaim tag f).detector = s.detector := rfl
@[simp] theorem State.mapClaim_former (s : State) (tag : Tag) (f : Claim → Claim) : (s.mapClaim tag f).former = s.former := rfl
@[simp] theorem State.mapClaim_assembler (s : State) (tag : Tag) (f : Claim → Claim) : (s.mapClaim tag f).assembler = s.assembler := rfl
@[simp] theorem State.mapClaim_span (s : State) (tag : Tag) (f : Claim → Claim) : (s.mapClaim tag f).span = s.span := rfl
@[simp] theorem State.mapClaim_line (s : State) (tag : Tag) (f : Claim → Claim) : (s.mapClaim tag f).line = s.line := rfl
@[simp] theorem State.mapClaim_sign (s : State) (tag : Tag) (f : Claim → Claim) : (s.mapClaim tag f).sign = s.sign := rfl
@[simp] theorem State.mapClaim_handler (s : State) (tag : Tag) (f : Claim → Claim) : (s.mapClaim tag f).handler = s.handler := rfl
@[simp] theorem State.mapClaim_pending (s : State) (tag : Tag) (f : Claim → Claim) : (s.mapClaim tag f).pending = s.pending := rfl

/-! ### A claim leaves (05): `dropClaim` -/

@[simp] theorem State.dropClaim_now (s : State) (tag : Tag) : (s.dropClaim tag).now = s.now := rfl
@[simp] theorem State.dropClaim_control (s : State) (tag : Tag) : (s.dropClaim tag).control = s.control := rfl
@[simp] theorem State.dropClaim_counters (s : State) (tag : Tag) : (s.dropClaim tag).counters = s.counters := rfl
@[simp] theorem State.dropClaim_port (s : State) (tag : Tag) : (s.dropClaim tag).port = s.port := rfl
@[simp] theorem State.dropClaim_detector (s : State) (tag : Tag) : (s.dropClaim tag).detector = s.detector := rfl
@[simp] theorem State.dropClaim_former (s : State) (tag : Tag) : (s.dropClaim tag).former = s.former := rfl
@[simp] theorem State.dropClaim_assembler (s : State) (tag : Tag) : (s.dropClaim tag).assembler = s.assembler := rfl
@[simp] theorem State.dropClaim_span (s : State) (tag : Tag) : (s.dropClaim tag).span = s.span := rfl
@[simp] theorem State.dropClaim_line (s : State) (tag : Tag) : (s.dropClaim tag).line = s.line := rfl
@[simp] theorem State.dropClaim_sign (s : State) (tag : Tag) : (s.dropClaim tag).sign = s.sign := rfl
@[simp] theorem State.dropClaim_handler (s : State) (tag : Tag) : (s.dropClaim tag).handler = s.handler := rfl
@[simp] theorem State.dropClaim_pending (s : State) (tag : Tag) : (s.dropClaim tag).pending = s.pending := rfl

/-! ### The claims change (05 R80, R82): `updateClaims` -/

@[simp] theorem State.updateClaims_now (s : State) (f : Claim → Claim) : (s.updateClaims f).now = s.now := rfl
@[simp] theorem State.updateClaims_control (s : State) (f : Claim → Claim) : (s.updateClaims f).control = s.control := rfl
@[simp] theorem State.updateClaims_counters (s : State) (f : Claim → Claim) : (s.updateClaims f).counters = s.counters := rfl
@[simp] theorem State.updateClaims_port (s : State) (f : Claim → Claim) : (s.updateClaims f).port = s.port := rfl
@[simp] theorem State.updateClaims_detector (s : State) (f : Claim → Claim) : (s.updateClaims f).detector = s.detector := rfl
@[simp] theorem State.updateClaims_former (s : State) (f : Claim → Claim) : (s.updateClaims f).former = s.former := rfl
@[simp] theorem State.updateClaims_assembler (s : State) (f : Claim → Claim) : (s.updateClaims f).assembler = s.assembler := rfl
@[simp] theorem State.updateClaims_span (s : State) (f : Claim → Claim) : (s.updateClaims f).span = s.span := rfl
@[simp] theorem State.updateClaims_line (s : State) (f : Claim → Claim) : (s.updateClaims f).line = s.line := rfl
@[simp] theorem State.updateClaims_sign (s : State) (f : Claim → Claim) : (s.updateClaims f).sign = s.sign := rfl
@[simp] theorem State.updateClaims_handler (s : State) (f : Claim → Claim) : (s.updateClaims f).handler = s.handler := rfl
@[simp] theorem State.updateClaims_pending (s : State) (f : Claim → Claim) : (s.updateClaims f).pending = s.pending := rfl

/-! ### A frame leaves (08 R135): `removeFrame` -/

@[simp] theorem State.removeFrame_now (s : State) (f : TxFrame) : (s.removeFrame f).now = s.now := rfl
@[simp] theorem State.removeFrame_control (s : State) (f : TxFrame) : (s.removeFrame f).control = s.control := rfl
@[simp] theorem State.removeFrame_counters (s : State) (f : TxFrame) : (s.removeFrame f).counters = s.counters := rfl
@[simp] theorem State.removeFrame_port (s : State) (f : TxFrame) : (s.removeFrame f).port = s.port := rfl
@[simp] theorem State.removeFrame_detector (s : State) (f : TxFrame) : (s.removeFrame f).detector = s.detector := rfl
@[simp] theorem State.removeFrame_former (s : State) (f : TxFrame) : (s.removeFrame f).former = s.former := rfl
@[simp] theorem State.removeFrame_assembler (s : State) (f : TxFrame) : (s.removeFrame f).assembler = s.assembler := rfl
@[simp] theorem State.removeFrame_admission (s : State) (f : TxFrame) : (s.removeFrame f).admission = s.admission := rfl
@[simp] theorem State.removeFrame_span (s : State) (f : TxFrame) : (s.removeFrame f).span = s.span := rfl
@[simp] theorem State.removeFrame_sign (s : State) (f : TxFrame) : (s.removeFrame f).sign = s.sign := rfl
@[simp] theorem State.removeFrame_handler (s : State) (f : TxFrame) : (s.removeFrame f).handler = s.handler := rfl
@[simp] theorem State.removeFrame_pending (s : State) (f : TxFrame) : (s.removeFrame f).pending = s.pending := rfl

/-! ### The CLAIM frame leaves (08 R135): `removeClaimFrame` -/

@[simp] theorem State.removeClaimFrame_now (s : State) : (s.removeClaimFrame).now = s.now := rfl
@[simp] theorem State.removeClaimFrame_control (s : State) : (s.removeClaimFrame).control = s.control := rfl
@[simp] theorem State.removeClaimFrame_counters (s : State) : (s.removeClaimFrame).counters = s.counters := rfl
@[simp] theorem State.removeClaimFrame_port (s : State) : (s.removeClaimFrame).port = s.port := rfl
@[simp] theorem State.removeClaimFrame_detector (s : State) : (s.removeClaimFrame).detector = s.detector := rfl
@[simp] theorem State.removeClaimFrame_former (s : State) : (s.removeClaimFrame).former = s.former := rfl
@[simp] theorem State.removeClaimFrame_assembler (s : State) : (s.removeClaimFrame).assembler = s.assembler := rfl
@[simp] theorem State.removeClaimFrame_admission (s : State) : (s.removeClaimFrame).admission = s.admission := rfl
@[simp] theorem State.removeClaimFrame_span (s : State) : (s.removeClaimFrame).span = s.span := rfl
@[simp] theorem State.removeClaimFrame_sign (s : State) : (s.removeClaimFrame).sign = s.sign := rfl
@[simp] theorem State.removeClaimFrame_handler (s : State) : (s.removeClaimFrame).handler = s.handler := rfl
@[simp] theorem State.removeClaimFrame_pending (s : State) : (s.removeClaimFrame).pending = s.pending := rfl

/-! ### A record joins the ring (03 R52): `remember` -/

@[simp] theorem State.remember_now (s : State) (r : VehicleRecord) : (s.remember r).now = s.now := rfl
@[simp] theorem State.remember_control (s : State) (r : VehicleRecord) : (s.remember r).control = s.control := rfl
@[simp] theorem State.remember_counters (s : State) (r : VehicleRecord) : (s.remember r).counters = s.counters := rfl
@[simp] theorem State.remember_port (s : State) (r : VehicleRecord) : (s.remember r).port = s.port := rfl
@[simp] theorem State.remember_detector (s : State) (r : VehicleRecord) : (s.remember r).detector = s.detector := rfl
@[simp] theorem State.remember_former (s : State) (r : VehicleRecord) : (s.remember r).former = s.former := rfl
@[simp] theorem State.remember_admission (s : State) (r : VehicleRecord) : (s.remember r).admission = s.admission := rfl
@[simp] theorem State.remember_span (s : State) (r : VehicleRecord) : (s.remember r).span = s.span := rfl
@[simp] theorem State.remember_line (s : State) (r : VehicleRecord) : (s.remember r).line = s.line := rfl
@[simp] theorem State.remember_sign (s : State) (r : VehicleRecord) : (s.remember r).sign = s.sign := rfl
@[simp] theorem State.remember_handler (s : State) (r : VehicleRecord) : (s.remember r).handler = s.handler := rfl
@[simp] theorem State.remember_pending (s : State) (r : VehicleRecord) : (s.remember r).pending = s.pending := rfl

/-! ### A ring copy is completed (05 R77): `recall` -/

@[simp] theorem State.recall_now (s : State) (r : VehicleRecord) : (s.recall r).now = s.now := rfl
@[simp] theorem State.recall_control (s : State) (r : VehicleRecord) : (s.recall r).control = s.control := rfl
@[simp] theorem State.recall_counters (s : State) (r : VehicleRecord) : (s.recall r).counters = s.counters := rfl
@[simp] theorem State.recall_port (s : State) (r : VehicleRecord) : (s.recall r).port = s.port := rfl
@[simp] theorem State.recall_detector (s : State) (r : VehicleRecord) : (s.recall r).detector = s.detector := rfl
@[simp] theorem State.recall_former (s : State) (r : VehicleRecord) : (s.recall r).former = s.former := rfl
@[simp] theorem State.recall_admission (s : State) (r : VehicleRecord) : (s.recall r).admission = s.admission := rfl
@[simp] theorem State.recall_span (s : State) (r : VehicleRecord) : (s.recall r).span = s.span := rfl
@[simp] theorem State.recall_line (s : State) (r : VehicleRecord) : (s.recall r).line = s.line := rfl
@[simp] theorem State.recall_sign (s : State) (r : VehicleRecord) : (s.recall r).sign = s.sign := rfl
@[simp] theorem State.recall_handler (s : State) (r : VehicleRecord) : (s.recall r).handler = s.handler := rfl
@[simp] theorem State.recall_pending (s : State) (r : VehicleRecord) : (s.recall r).pending = s.pending := rfl

/-! ### A divert notice (09 R149): `divertNotice` -/

@[simp] theorem State.divertNotice_now (s : State) : (s.divertNotice).now = s.now := rfl
@[simp] theorem State.divertNotice_control (s : State) : (s.divertNotice).control = s.control := rfl
@[simp] theorem State.divertNotice_counters (s : State) : (s.divertNotice).counters = s.counters := rfl
@[simp] theorem State.divertNotice_port (s : State) : (s.divertNotice).port = s.port := rfl
@[simp] theorem State.divertNotice_detector (s : State) : (s.divertNotice).detector = s.detector := rfl
@[simp] theorem State.divertNotice_former (s : State) : (s.divertNotice).former = s.former := rfl
@[simp] theorem State.divertNotice_assembler (s : State) : (s.divertNotice).assembler = s.assembler := rfl
@[simp] theorem State.divertNotice_admission (s : State) : (s.divertNotice).admission = s.admission := rfl
@[simp] theorem State.divertNotice_span (s : State) : (s.divertNotice).span = s.span := rfl
@[simp] theorem State.divertNotice_line (s : State) : (s.divertNotice).line = s.line := rfl
@[simp] theorem State.divertNotice_handler (s : State) : (s.divertNotice).handler = s.handler := rfl
@[simp] theorem State.divertNotice_pending (s : State) : (s.divertNotice).pending = s.pending := rfl

/-! ### HELD is left (09 R145): `enterReopening` -/

@[simp] theorem State.enterReopening_now (s : State) : (s.enterReopening).now = s.now := rfl
@[simp] theorem State.enterReopening_control (s : State) : (s.enterReopening).control = s.control := rfl
@[simp] theorem State.enterReopening_counters (s : State) : (s.enterReopening).counters = s.counters := rfl
@[simp] theorem State.enterReopening_port (s : State) : (s.enterReopening).port = s.port := rfl
@[simp] theorem State.enterReopening_detector (s : State) : (s.enterReopening).detector = s.detector := rfl
@[simp] theorem State.enterReopening_former (s : State) : (s.enterReopening).former = s.former := rfl
@[simp] theorem State.enterReopening_assembler (s : State) : (s.enterReopening).assembler = s.assembler := rfl
@[simp] theorem State.enterReopening_admission (s : State) : (s.enterReopening).admission = s.admission := rfl
@[simp] theorem State.enterReopening_span (s : State) : (s.enterReopening).span = s.span := rfl
@[simp] theorem State.enterReopening_line (s : State) : (s.enterReopening).line = s.line := rfl
@[simp] theorem State.enterReopening_handler (s : State) : (s.enterReopening).handler = s.handler := rfl
@[simp] theorem State.enterReopening_pending (s : State) : (s.enterReopening).pending = s.pending := rfl

/-! ### Learning starts (06 R106): `startLearning` -/

@[simp] theorem State.startLearning_now (s : State) : (s.startLearning).now = s.now := rfl
@[simp] theorem State.startLearning_counters (s : State) : (s.startLearning).counters = s.counters := rfl
@[simp] theorem State.startLearning_port (s : State) : (s.startLearning).port = s.port := rfl
@[simp] theorem State.startLearning_detector (s : State) : (s.startLearning).detector = s.detector := rfl
@[simp] theorem State.startLearning_former (s : State) : (s.startLearning).former = s.former := rfl
@[simp] theorem State.startLearning_assembler (s : State) : (s.startLearning).assembler = s.assembler := rfl
@[simp] theorem State.startLearning_admission (s : State) : (s.startLearning).admission = s.admission := rfl
@[simp] theorem State.startLearning_span (s : State) : (s.startLearning).span = s.span := rfl
@[simp] theorem State.startLearning_line (s : State) : (s.startLearning).line = s.line := rfl
@[simp] theorem State.startLearning_sign (s : State) : (s.startLearning).sign = s.sign := rfl
@[simp] theorem State.startLearning_handler (s : State) : (s.startLearning).handler = s.handler := rfl
@[simp] theorem State.startLearning_pending (s : State) : (s.startLearning).pending = s.pending := rfl

/-! ### The outputs settle (09 R148): `settle` -/

@[simp] theorem State.settle_now (s : State) : (s.settle).now = s.now := rfl
@[simp] theorem State.settle_counters (s : State) : (s.settle).counters = s.counters := rfl
@[simp] theorem State.settle_port (s : State) : (s.settle).port = s.port := rfl
@[simp] theorem State.settle_detector (s : State) : (s.settle).detector = s.detector := rfl
@[simp] theorem State.settle_former (s : State) : (s.settle).former = s.former := rfl
@[simp] theorem State.settle_assembler (s : State) : (s.settle).assembler = s.assembler := rfl
@[simp] theorem State.settle_admission (s : State) : (s.settle).admission = s.admission := rfl
@[simp] theorem State.settle_span (s : State) : (s.settle).span = s.span := rfl
@[simp] theorem State.settle_line (s : State) : (s.settle).line = s.line := rfl
@[simp] theorem State.settle_handler (s : State) : (s.settle).handler = s.handler := rfl
@[simp] theorem State.settle_pending (s : State) : (s.settle).pending = s.pending := rfl

/-! ### A command is taken up (11 R165): `clearDue` -/

@[simp] theorem State.clearDue_now (s : State) : (s.clearDue).now = s.now := rfl
@[simp] theorem State.clearDue_control (s : State) : (s.clearDue).control = s.control := rfl
@[simp] theorem State.clearDue_counters (s : State) : (s.clearDue).counters = s.counters := rfl
@[simp] theorem State.clearDue_port (s : State) : (s.clearDue).port = s.port := rfl
@[simp] theorem State.clearDue_detector (s : State) : (s.clearDue).detector = s.detector := rfl
@[simp] theorem State.clearDue_former (s : State) : (s.clearDue).former = s.former := rfl
@[simp] theorem State.clearDue_assembler (s : State) : (s.clearDue).assembler = s.assembler := rfl
@[simp] theorem State.clearDue_admission (s : State) : (s.clearDue).admission = s.admission := rfl
@[simp] theorem State.clearDue_span (s : State) : (s.clearDue).span = s.span := rfl
@[simp] theorem State.clearDue_line (s : State) : (s.clearDue).line = s.line := rfl
@[simp] theorem State.clearDue_sign (s : State) : (s.clearDue).sign = s.sign := rfl
@[simp] theorem State.clearDue_pending (s : State) : (s.clearDue).pending = s.pending := rfl

/-! ### No frame in flight (08 R129, R130): `groundFrame` -/

@[simp] theorem State.groundFrame_now (s : State) : (s.groundFrame).now = s.now := rfl
@[simp] theorem State.groundFrame_control (s : State) : (s.groundFrame).control = s.control := rfl
@[simp] theorem State.groundFrame_counters (s : State) : (s.groundFrame).counters = s.counters := rfl
@[simp] theorem State.groundFrame_port (s : State) : (s.groundFrame).port = s.port := rfl
@[simp] theorem State.groundFrame_detector (s : State) : (s.groundFrame).detector = s.detector := rfl
@[simp] theorem State.groundFrame_former (s : State) : (s.groundFrame).former = s.former := rfl
@[simp] theorem State.groundFrame_assembler (s : State) : (s.groundFrame).assembler = s.assembler := rfl
@[simp] theorem State.groundFrame_admission (s : State) : (s.groundFrame).admission = s.admission := rfl
@[simp] theorem State.groundFrame_span (s : State) : (s.groundFrame).span = s.span := rfl
@[simp] theorem State.groundFrame_sign (s : State) : (s.groundFrame).sign = s.sign := rfl
@[simp] theorem State.groundFrame_handler (s : State) : (s.groundFrame).handler = s.handler := rfl
@[simp] theorem State.groundFrame_pending (s : State) : (s.groundFrame).pending = s.pending := rfl

/-! ### The isolation attempt failed (08 R139): `isolationFailed` -/

@[simp] theorem State.isolationFailed_now (s : State) : (s.isolationFailed).now = s.now := rfl
@[simp] theorem State.isolationFailed_control (s : State) : (s.isolationFailed).control = s.control := rfl
@[simp] theorem State.isolationFailed_counters (s : State) : (s.isolationFailed).counters = s.counters := rfl
@[simp] theorem State.isolationFailed_port (s : State) : (s.isolationFailed).port = s.port := rfl
@[simp] theorem State.isolationFailed_detector (s : State) : (s.isolationFailed).detector = s.detector := rfl
@[simp] theorem State.isolationFailed_former (s : State) : (s.isolationFailed).former = s.former := rfl
@[simp] theorem State.isolationFailed_assembler (s : State) : (s.isolationFailed).assembler = s.assembler := rfl
@[simp] theorem State.isolationFailed_admission (s : State) : (s.isolationFailed).admission = s.admission := rfl
@[simp] theorem State.isolationFailed_span (s : State) : (s.isolationFailed).span = s.span := rfl
@[simp] theorem State.isolationFailed_sign (s : State) : (s.isolationFailed).sign = s.sign := rfl
@[simp] theorem State.isolationFailed_handler (s : State) : (s.isolationFailed).handler = s.handler := rfl
@[simp] theorem State.isolationFailed_pending (s : State) : (s.isolationFailed).pending = s.pending := rfl

/-! ### A frame starts (08 R127): `drive` -/

@[simp] theorem State.drive_now (s : State) (f : TxFrame) (join : Bool) : (s.drive f join).now = s.now := rfl
@[simp] theorem State.drive_control (s : State) (f : TxFrame) (join : Bool) : (s.drive f join).control = s.control := rfl
@[simp] theorem State.drive_counters (s : State) (f : TxFrame) (join : Bool) : (s.drive f join).counters = s.counters := rfl
@[simp] theorem State.drive_port (s : State) (f : TxFrame) (join : Bool) : (s.drive f join).port = s.port := rfl
@[simp] theorem State.drive_detector (s : State) (f : TxFrame) (join : Bool) : (s.drive f join).detector = s.detector := rfl
@[simp] theorem State.drive_former (s : State) (f : TxFrame) (join : Bool) : (s.drive f join).former = s.former := rfl
@[simp] theorem State.drive_assembler (s : State) (f : TxFrame) (join : Bool) : (s.drive f join).assembler = s.assembler := rfl
@[simp] theorem State.drive_admission (s : State) (f : TxFrame) (join : Bool) : (s.drive f join).admission = s.admission := rfl
@[simp] theorem State.drive_span (s : State) (f : TxFrame) (join : Bool) : (s.drive f join).span = s.span := rfl
@[simp] theorem State.drive_sign (s : State) (f : TxFrame) (join : Bool) : (s.drive f join).sign = s.sign := rfl
@[simp] theorem State.drive_handler (s : State) (f : TxFrame) (join : Bool) : (s.drive f join).handler = s.handler := rfl
@[simp] theorem State.drive_pending (s : State) (f : TxFrame) (join : Bool) : (s.drive f join).pending = s.pending := rfl

/-! ### A frame is over (08 R126): `frameOver` -/

@[simp] theorem State.frameOver_now (s : State) : (s.frameOver).now = s.now := rfl
@[simp] theorem State.frameOver_control (s : State) : (s.frameOver).control = s.control := rfl
@[simp] theorem State.frameOver_counters (s : State) : (s.frameOver).counters = s.counters := rfl
@[simp] theorem State.frameOver_port (s : State) : (s.frameOver).port = s.port := rfl
@[simp] theorem State.frameOver_detector (s : State) : (s.frameOver).detector = s.detector := rfl
@[simp] theorem State.frameOver_former (s : State) : (s.frameOver).former = s.former := rfl
@[simp] theorem State.frameOver_assembler (s : State) : (s.frameOver).assembler = s.assembler := rfl
@[simp] theorem State.frameOver_admission (s : State) : (s.frameOver).admission = s.admission := rfl
@[simp] theorem State.frameOver_span (s : State) : (s.frameOver).span = s.span := rfl
@[simp] theorem State.frameOver_sign (s : State) : (s.frameOver).sign = s.sign := rfl
@[simp] theorem State.frameOver_pending (s : State) : (s.frameOver).pending = s.pending := rfl

/-! ### A bit error (08 R130): `countBitError` -/

@[simp] theorem State.countBitError_now (s : State) : (s.countBitError).now = s.now := rfl
@[simp] theorem State.countBitError_control (s : State) : (s.countBitError).control = s.control := rfl
@[simp] theorem State.countBitError_port (s : State) : (s.countBitError).port = s.port := rfl
@[simp] theorem State.countBitError_detector (s : State) : (s.countBitError).detector = s.detector := rfl
@[simp] theorem State.countBitError_former (s : State) : (s.countBitError).former = s.former := rfl
@[simp] theorem State.countBitError_assembler (s : State) : (s.countBitError).assembler = s.assembler := rfl
@[simp] theorem State.countBitError_admission (s : State) : (s.countBitError).admission = s.admission := rfl
@[simp] theorem State.countBitError_span (s : State) : (s.countBitError).span = s.span := rfl
@[simp] theorem State.countBitError_line (s : State) : (s.countBitError).line = s.line := rfl
@[simp] theorem State.countBitError_sign (s : State) : (s.countBitError).sign = s.sign := rfl
@[simp] theorem State.countBitError_handler (s : State) : (s.countBitError).handler = s.handler := rfl
@[simp] theorem State.countBitError_pending (s : State) : (s.countBitError).pending = s.pending := rfl

/-! ### The head-lost timer (01 R10): `restartHeadTimer` -/

@[simp] theorem State.restartHeadTimer_now (s : State) : (s.restartHeadTimer).now = s.now := rfl
@[simp] theorem State.restartHeadTimer_control (s : State) : (s.restartHeadTimer).control = s.control := rfl
@[simp] theorem State.restartHeadTimer_counters (s : State) : (s.restartHeadTimer).counters = s.counters := rfl
@[simp] theorem State.restartHeadTimer_detector (s : State) : (s.restartHeadTimer).detector = s.detector := rfl
@[simp] theorem State.restartHeadTimer_former (s : State) : (s.restartHeadTimer).former = s.former := rfl
@[simp] theorem State.restartHeadTimer_assembler (s : State) : (s.restartHeadTimer).assembler = s.assembler := rfl
@[simp] theorem State.restartHeadTimer_admission (s : State) : (s.restartHeadTimer).admission = s.admission := rfl
@[simp] theorem State.restartHeadTimer_span (s : State) : (s.restartHeadTimer).span = s.span := rfl
@[simp] theorem State.restartHeadTimer_line (s : State) : (s.restartHeadTimer).line = s.line := rfl
@[simp] theorem State.restartHeadTimer_sign (s : State) : (s.restartHeadTimer).sign = s.sign := rfl
@[simp] theorem State.restartHeadTimer_handler (s : State) : (s.restartHeadTimer).handler = s.handler := rfl
@[simp] theorem State.restartHeadTimer_pending (s : State) : (s.restartHeadTimer).pending = s.pending := rfl

/-! ### The head wait resumes (10 R156): `resumeHeadWait` -/

@[simp] theorem State.resumeHeadWait_now (s : State) : (s.resumeHeadWait).now = s.now := rfl
@[simp] theorem State.resumeHeadWait_counters (s : State) : (s.resumeHeadWait).counters = s.counters := rfl
@[simp] theorem State.resumeHeadWait_port (s : State) : (s.resumeHeadWait).port = s.port := rfl
@[simp] theorem State.resumeHeadWait_detector (s : State) : (s.resumeHeadWait).detector = s.detector := rfl
@[simp] theorem State.resumeHeadWait_former (s : State) : (s.resumeHeadWait).former = s.former := rfl
@[simp] theorem State.resumeHeadWait_assembler (s : State) : (s.resumeHeadWait).assembler = s.assembler := rfl
@[simp] theorem State.resumeHeadWait_admission (s : State) : (s.resumeHeadWait).admission = s.admission := rfl
@[simp] theorem State.resumeHeadWait_span (s : State) : (s.resumeHeadWait).span = s.span := rfl
@[simp] theorem State.resumeHeadWait_line (s : State) : (s.resumeHeadWait).line = s.line := rfl
@[simp] theorem State.resumeHeadWait_sign (s : State) : (s.resumeHeadWait).sign = s.sign := rfl
@[simp] theorem State.resumeHeadWait_handler (s : State) : (s.resumeHeadWait).handler = s.handler := rfl
@[simp] theorem State.resumeHeadWait_pending (s : State) : (s.resumeHeadWait).pending = s.pending := rfl

/-! ### A gap or overrun (01 R5, R7): `countGap` -/

@[simp] theorem State.countGap_now (s : State) : (s.countGap).now = s.now := rfl
@[simp] theorem State.countGap_control (s : State) : (s.countGap).control = s.control := rfl
@[simp] theorem State.countGap_port (s : State) : (s.countGap).port = s.port := rfl
@[simp] theorem State.countGap_detector (s : State) : (s.countGap).detector = s.detector := rfl
@[simp] theorem State.countGap_former (s : State) : (s.countGap).former = s.former := rfl
@[simp] theorem State.countGap_assembler (s : State) : (s.countGap).assembler = s.assembler := rfl
@[simp] theorem State.countGap_admission (s : State) : (s.countGap).admission = s.admission := rfl
@[simp] theorem State.countGap_span (s : State) : (s.countGap).span = s.span := rfl
@[simp] theorem State.countGap_line (s : State) : (s.countGap).line = s.line := rfl
@[simp] theorem State.countGap_sign (s : State) : (s.countGap).sign = s.sign := rfl
@[simp] theorem State.countGap_handler (s : State) : (s.countGap).handler = s.handler := rfl
@[simp] theorem State.countGap_pending (s : State) : (s.countGap).pending = s.pending := rfl

/-! ### A load begins (10 R157): `beginLoad` -/

@[simp] theorem State.beginLoad_now (s : State) (kind : LoadKind) : (s.beginLoad kind).now = s.now := rfl
@[simp] theorem State.beginLoad_counters (s : State) (kind : LoadKind) : (s.beginLoad kind).counters = s.counters := rfl
@[simp] theorem State.beginLoad_port (s : State) (kind : LoadKind) : (s.beginLoad kind).port = s.port := rfl
@[simp] theorem State.beginLoad_detector (s : State) (kind : LoadKind) : (s.beginLoad kind).detector = s.detector := rfl
@[simp] theorem State.beginLoad_former (s : State) (kind : LoadKind) : (s.beginLoad kind).former = s.former := rfl
@[simp] theorem State.beginLoad_assembler (s : State) (kind : LoadKind) : (s.beginLoad kind).assembler = s.assembler := rfl
@[simp] theorem State.beginLoad_admission (s : State) (kind : LoadKind) : (s.beginLoad kind).admission = s.admission := rfl
@[simp] theorem State.beginLoad_span (s : State) (kind : LoadKind) : (s.beginLoad kind).span = s.span := rfl
@[simp] theorem State.beginLoad_line (s : State) (kind : LoadKind) : (s.beginLoad kind).line = s.line := rfl
@[simp] theorem State.beginLoad_sign (s : State) (kind : LoadKind) : (s.beginLoad kind).sign = s.sign := rfl
@[simp] theorem State.beginLoad_handler (s : State) (kind : LoadKind) : (s.beginLoad kind).handler = s.handler := rfl
@[simp] theorem State.beginLoad_pending (s : State) (kind : LoadKind) : (s.beginLoad kind).pending = s.pending := rfl

/-! ### A framing error in IDLE (08 R123): `idleError` -/

@[simp] theorem State.idleError_now (s : State) : (s.idleError).now = s.now := rfl
@[simp] theorem State.idleError_control (s : State) : (s.idleError).control = s.control := rfl
@[simp] theorem State.idleError_port (s : State) : (s.idleError).port = s.port := rfl
@[simp] theorem State.idleError_detector (s : State) : (s.idleError).detector = s.detector := rfl
@[simp] theorem State.idleError_former (s : State) : (s.idleError).former = s.former := rfl
@[simp] theorem State.idleError_assembler (s : State) : (s.idleError).assembler = s.assembler := rfl
@[simp] theorem State.idleError_admission (s : State) : (s.idleError).admission = s.admission := rfl
@[simp] theorem State.idleError_span (s : State) : (s.idleError).span = s.span := rfl
@[simp] theorem State.idleError_sign (s : State) : (s.idleError).sign = s.sign := rfl
@[simp] theorem State.idleError_handler (s : State) : (s.idleError).handler = s.handler := rfl
@[simp] theorem State.idleError_pending (s : State) : (s.idleError).pending = s.pending := rfl

/-! ### A framing error in FRAME (08 R123): `frameErrorMet` -/

@[simp] theorem State.frameErrorMet_now (s : State) (bytes : List Byte) : (s.frameErrorMet bytes).now = s.now := rfl
@[simp] theorem State.frameErrorMet_control (s : State) (bytes : List Byte) : (s.frameErrorMet bytes).control = s.control := rfl
@[simp] theorem State.frameErrorMet_counters (s : State) (bytes : List Byte) : (s.frameErrorMet bytes).counters = s.counters := rfl
@[simp] theorem State.frameErrorMet_port (s : State) (bytes : List Byte) : (s.frameErrorMet bytes).port = s.port := rfl
@[simp] theorem State.frameErrorMet_detector (s : State) (bytes : List Byte) : (s.frameErrorMet bytes).detector = s.detector := rfl
@[simp] theorem State.frameErrorMet_former (s : State) (bytes : List Byte) : (s.frameErrorMet bytes).former = s.former := rfl
@[simp] theorem State.frameErrorMet_assembler (s : State) (bytes : List Byte) : (s.frameErrorMet bytes).assembler = s.assembler := rfl
@[simp] theorem State.frameErrorMet_admission (s : State) (bytes : List Byte) : (s.frameErrorMet bytes).admission = s.admission := rfl
@[simp] theorem State.frameErrorMet_span (s : State) (bytes : List Byte) : (s.frameErrorMet bytes).span = s.span := rfl
@[simp] theorem State.frameErrorMet_sign (s : State) (bytes : List Byte) : (s.frameErrorMet bytes).sign = s.sign := rfl
@[simp] theorem State.frameErrorMet_handler (s : State) (bytes : List Byte) : (s.frameErrorMet bytes).handler = s.handler := rfl
@[simp] theorem State.frameErrorMet_pending (s : State) (bytes : List Byte) : (s.frameErrorMet bytes).pending = s.pending := rfl

end Sys2Proof.Machine
end

