-- ==== Sys2Proof/Laws/Former.lean ====
section
/-! SUPPORT. What the Axle Former and the Vehicle Assembler can change: their own state and the count of vehicles closed. -/

namespace Sys2Proof.Machine

/-- From `s` to `t` only the former, the assembler and the count of vehicles closed have changed, and
of the assembler neither the current sample, the presence run nor the history. -/
structure State.Forms (s t : State) : Prop where
  now : t.now = s.now
  control : t.control = s.control
  counters : t.counters = { s.counters with vehiclesClosed := t.counters.vehiclesClosed }
  port : t.port = s.port
  detector : t.detector = s.detector
  assembler : t.assembler =
    { s.assembler with
      vehicle := t.assembler.vehicle, tagCounter := t.assembler.tagCounter
      outbound := t.assembler.outbound, closedQueue := t.assembler.closedQueue }
  admission : t.admission = s.admission
  span : t.span = s.span
  line : t.line = s.line
  sign : t.sign = s.sign
  handler : t.handler = s.handler
  pending : t.pending = s.pending

theorem State.Forms.refl (s : State) : s.Forms s := by constructor <;> rfl

theorem State.Forms.trans {s t u : State} (h : s.Forms t) (k : t.Forms u) : s.Forms u := by
  constructor
  · rw [k.now, h.now]
  · rw [k.control, h.control]
  · rw [k.counters, h.counters]
  · rw [k.port, h.port]
  · rw [k.detector, h.detector]
  · rw [k.assembler, h.assembler]
  · rw [k.admission, h.admission]
  · rw [k.span, h.span]
  · rw [k.line, h.line]
  · rw [k.sign, h.sign]
  · rw [k.handler, h.handler]
  · rw [k.pending, h.pending]

/-- A change of the former alone. -/
theorem forms_former (s : State) (f : AxleFormer) : s.Forms { s with former := f } := by
  constructor <;> rfl

/-- A change of the open vehicle alone. -/
theorem forms_vehicle (s : State) (v : Option OpenVehicle) :
    s.Forms { s with assembler := { s.assembler with vehicle := v } } := by constructor <;> rfl

theorem closeVehicle_forms (s : State) (cause : CloseCause) : s.Forms (s.closeVehicle cause) := by
  unfold State.closeVehicle
  split
  · exact .refl s
  · dsimp only
    split <;> constructor <;> rfl

theorem openVehicle_forms (s : State) (i : Index) (gap split : Bool) :
    s.Forms (s.openVehicle i gap split) := by constructor <;> rfl

theorem joinOpen_forms (s : State) (x : Axle) (i : Index) : s.Forms (s.joinOpen x i) := by
  unfold State.joinOpen; split
  · exact .refl s
  · exact forms_vehicle _ _

theorem takeAxle_forms (s : State) (x : Axle) : s.Forms (s.takeAxle x) := by
  unfold State.takeAxle; dsimp only; split
  · exact (forms_vehicle s _).trans (joinOpen_forms _ _ _)
  · split
    · exact joinOpen_forms _ _ _
    · exact ((closeVehicle_forms s _).trans (forms_vehicle _ _)).trans (joinOpen_forms _ _ _)

theorem closeIfDue_forms (s : State) : s.Forms s.closeIfDue := by
  unfold State.closeIfDue; split
  · exact .refl s
  · split
    · exact closeVehicle_forms _ _
    · exact .refl s

theorem withReport_forms {s t : State} (h : s.Forms t) (before : State) : s.Forms (before.withReport t) := by
  unfold State.withReport; split
  · exact h.trans (closeIfDue_forms t)
  · exact h

theorem pairRowB_forms (s : State) (b : RowAxle) : s.Forms (s.pairRowB b) := by
  unfold State.pairRowB; split
  · exact ((forms_former s _).trans (takeAxle_forms _ _)).trans (forms_former _ _)
  · exact takeAxle_forms _ _

theorem pendRowA_forms (s : State) (x : RowAxle) : s.Forms (s.pendRowA x) := by
  unfold State.pendRowA; split
  · exact .refl s
  · split
    · exact (forms_former s _).trans (takeAxle_forms _ _)
    · exact forms_former s _

theorem awaitRowB_forms (s : State) (x : RowAxle) : s.Forms (s.awaitRowB x) := by
  unfold State.awaitRowB; dsimp only
  refine State.Forms.trans ?_ (forms_former _ _)
  split
  · exact .refl s
  · split
    · exact (forms_former s _).trans (pairRowB_forms _ _)
    · exact .refl s

theorem completeRowAxle_forms (s : State) (row : Row) (x : RowAxle) :
    s.Forms (s.completeRowAxle row x) := by
  unfold State.completeRowAxle; cases row
  · exact (forms_former s _).trans (pendRowA_forms _ _)
  · exact (forms_former s _).trans (awaitRowB_forms _ _)

theorem completeIfPassed_forms (s : State) (row : Row) (h : Index) :
    s.Forms (s.completeIfPassed row h) := by
  unfold State.completeIfPassed; split
  · exact .refl s
  · split
    · exact withReport_forms (completeRowAxle_forms s _ _) _
    · exact .refl s

theorem pairDue_forms (s : State) (h : Index) (n : Nat) : s.Forms (s.pairDue h n) := by
  induction n generalizing s with
  | zero => exact .refl s
  | succ n ih =>
    unfold State.pairDue; split
    · exact .refl s
    · split
      · exact .refl s
      · exact (withReport_forms ((forms_former s _).trans (pairRowB_forms _ _)) _).trans (ih _)

theorem expirePending_forms (s : State) (h : Index) (n : Nat) : s.Forms (s.expirePending h n) := by
  induction n generalizing s with
  | zero => exact .refl s
  | succ n ih =>
    unfold State.expirePending; split
    · exact .refl s
    · split
      · exact .refl s
      · exact (withReport_forms ((forms_former s _).trans (takeAxle_forms _ _)) _).trans (ih _)

theorem handleHorizon_forms (s : State) : s.Forms s.handleHorizon := by
  unfold State.handleHorizon; split
  · exact .refl s
  · split
    · exact .refl s
    · exact (((completeIfPassed_forms s _ _).trans (completeIfPassed_forms _ _ _)).trans
        (pairDue_forms _ _ _)).trans (expirePending_forms _ _ _)

theorem handleRecord_forms (s : State) (r : PulseRecord) : s.Forms (s.handleRecord r) := by
  unfold State.handleRecord; dsimp only; split
  · exact forms_former s _
  · split
    · split
      · exact completeRowAxle_forms _ _ _
      · exact forms_former s _
    · exact (completeRowAxle_forms _ _ _).trans (forms_former _ _)

theorem sampleTests_forms (s : State) : s.Forms s.sampleTests := by
  unfold State.sampleTests; split
  · exact .refl s
  · split
    · exact closeVehicle_forms _ _
    · split
      · exact (forms_vehicle s _).trans (closeIfDue_forms _)
      · exact .refl s

/-- The Assembler has the sample that it was handed (03 R39), and nothing outside it changes but the
count of vehicles closed. -/
theorem takeSample_forms (s : State) (index : Index) (stamp : Time) (presence : Bool) :
    ∃ a : Assembler, a.current = some ⟨index, stamp⟩ ∧ a.presence = presence
      ∧ a.history = s.assembler.history
      ∧ ({ s with assembler := a } : State).Forms (s.takeSample index stamp presence) := by
  refine ⟨{ s.assembler with
      current := some ⟨index, stamp⟩, presence, afterBreak := false
      runStart := if s.assembler.current.isNone || s.assembler.presence != presence then some index
        else s.assembler.runStart
      vehicle := s.assembler.vehicle.map fun v =>
        { v with presenceSeen := v.presenceSeen || presence } }, rfl, rfl, rfl, ?_⟩
  unfold State.takeSample; dsimp only
  refine State.Forms.trans ?_ (sampleTests_forms _)
  by_cases h : (presence && !s.assembler.presence && s.assembler.vehicle.isNone) = true
  · rw [if_pos h]; exact openVehicle_forms _ _ _ _
  · rw [if_neg h]; exact .refl _

/-! ## The records of a close (03 R46 to R51) -/

theorem bump_toNat (c : Counter) : (bump c).toNat = min (c.toNat + 1) 65535 := by
  unfold bump; split
  · rename_i h; rw [h]; decide
  · rename_i h
    have h2 : c.toNat ≠ 65535 := fun h' => h (BitVec.eq_of_toNat_eq (by rw [h']; decide))
    have := c.isLt
    rw [BitVec.toNat_add]; simp; omega

theorem bumpBy_toNat (c : Counter) (n : Nat) : (bumpBy c n).toNat = min (c.toNat + n) 65535 := by
  induction n generalizing c with
  | zero => simp [bumpBy]; have := c.isLt; omega
  | succ n ih => simp only [bumpBy]; rw [ih, bump_toNat]; have := c.isLt; omega

theorem piecesOf_ne_nil (maxSpacing speed : Nat) {axles : List Axle} (h : axles ≠ []) :
    piecesOf maxSpacing speed axles ≠ [] := by
  cases axles with
  | nil => simp at h
  | cons a l =>
    unfold piecesOf
    split
    · simp
    · simp
    · split <;> simp

/-- The records of the pieces take tags in turn: the first the next free tag from the counter, each later
one the next free tag after the one before (R50). -/
theorem recordsOf_tags (held : Tag → Bool) (mk : Tag → List Axle → VehicleRecord) :
    ∀ (pieces : List (List Axle)) (counter : Tag), ∃ tags : List Tag,
      tags.length = pieces.length
        ∧ (∀ (i : Nat) (tag : Tag), tags[i]? = some tag →
            tag = freeTag held 33 (if i = 0 then counter else tags.getD (i - 1) 0 + 1))
        ∧ (recordsOf held mk counter pieces).1 = List.zipWith mk tags pieces
        ∧ (recordsOf held mk counter pieces).2 =
            if pieces = [] then counter else tags.getLast?.getD 0 + 1 := by
  intro pieces
  induction pieces with
  | nil => intro c; exact ⟨[], rfl, by simp, rfl, rfl⟩
  | cons p ps ih =>
    intro c
    obtain ⟨tags, h1, h2, h3, h4⟩ := ih (freeTag held 33 c + 1)
    refine ⟨freeTag held 33 c :: tags, by simp [h1], ?_, ?_, ?_⟩
    · intro i g hg
      cases i with
      | zero => simp at hg; rw [← hg, if_pos rfl]
      | succ i =>
        simp at hg
        rw [h2 i g hg]
        cases i <;> simp
    · simp only [recordsOf, List.zipWith_cons_cons]; rw [← h3]; rfl
    · have e : (recordsOf held mk c (p :: ps)).2 = (recordsOf held mk (freeTag held 33 c + 1) ps).2 := rfl
      rw [e, h4]
      by_cases hp : ps = []
      · subst hp
        have : tags = [] := List.length_eq_zero_iff.mp (by simpa using h1)
        simp [this]
      · have : tags ≠ [] := by
          intro h; rw [h] at h1; exact hp (List.length_eq_zero_iff.mp (by simpa using h1.symm))
        rw [if_neg hp]; simp
        rw [List.getLast?_cons]; cases hh : tags.getLast? <;> simp_all

/-- A close of a vehicle with axles (R46): its pieces become records that join the outbound list, which
feeds the closed-vehicle queue (R51). -/
theorem closeVehicle_axles {s : State} {v : OpenVehicle} (hv : s.assembler.vehicle = some v)
    (ha : v.axles ≠ []) (cause : CloseCause) :
    let pieces := piecesOf s.maxAxleSpacing (splitSpeed v.axles s.defaultSpeed) v.axles
    let own := s.control.straps.number
    ∃ tags : List Tag, tags.length = pieces.length
      ∧ (∀ (i : Nat) (tag : Tag), tags[i]? = some tag → tag = freeTag (s.span.holds own) 33
          (if i = 0 then s.assembler.tagCounter else tags.getD (i - 1) 0 + 1))
      ∧ s.closeVehicle cause =
          { s with
            former := { s.former with lastDn := none }
            assembler := ({ s.assembler with
              vehicle := none, tagCounter := tags.getLast?.getD 0 + 1
              outbound := s.assembler.outbound ++
                List.zipWith (recordOf own s.now v cause (decide (1 < pieces.length))) tags pieces
              } : Assembler).feed
            counters := { s.counters with
              vehiclesClosed := bumpBy s.counters.vehiclesClosed pieces.length } } := by
  intro pieces own
  obtain ⟨tags, h1, h2, h3, h4⟩ := recordsOf_tags (s.span.holds own)
    (recordOf own s.now v cause (decide (1 < pieces.length))) pieces s.assembler.tagCounter
  rw [if_neg (piecesOf_ne_nil _ _ ha)] at h4
  refine ⟨tags, h1, h2, ?_⟩
  have hl : (List.zipWith (recordOf own s.now v cause (decide (1 < pieces.length))) tags pieces).length
      = pieces.length := by simp [h1]
  have he : v.axles.isEmpty = false := by cases h : v.axles <;> simp_all
  rw [← h3] at hl
  rw [← h4, ← h3]
  have e : s.closeVehicle cause = (fun n : Nat =>
      { s with
        former := { s.former with lastDn := none }
        assembler := ({ s.assembler with
          vehicle := none
          tagCounter := (recordsOf (s.span.holds own)
            (recordOf own s.now v cause (decide (1 < pieces.length))) s.assembler.tagCounter pieces).2
          outbound := s.assembler.outbound ++ (recordsOf (s.span.holds own)
            (recordOf own s.now v cause (decide (1 < pieces.length))) s.assembler.tagCounter pieces).1
          } : Assembler).feed
        counters := { s.counters with vehiclesClosed := bumpBy s.counters.vehiclesClosed n } })
      (recordsOf (s.span.holds own) (recordOf own s.now v cause (decide (1 < pieces.length)))
        s.assembler.tagCounter pieces).1.length := by
    unfold State.closeVehicle
    rw [hv]
    dsimp only
    rw [he]
    rfl
  rw [e, hl]

/-! ## Samples and horizons that reach nothing (02 R23; 03 R39) -/

/-- With the former empty the horizon reaches nothing (02 R23). -/
theorem handleHorizon_empty {s : State} (ha : s.former.openA = none) (hb : s.former.openB = none)
    (hw : s.former.waitingB = []) (hp : s.former.pendingA = []) : s.handleHorizon = s := by
  unfold State.handleHorizon
  split
  · rfl
  · split
    · rfl
    · rename_i h _
      have a : s.completeIfPassed .a h = s := by simp [State.completeIfPassed, AxleFormer.openOf, ha]
      have b : s.completeIfPassed .b h = s := by simp [State.completeIfPassed, AxleFormer.openOf, hb]
      simp [a, b, hw, hp, State.pairDue, State.expirePending]

/-- A tracking channel at rest follows the sample and begins no pulse (01 R12, R13). -/
theorem take_resting {tOn tOff : Nat} {sum sample : Int} (h : sample - sum / 64 < tOn)
    (x : SampleContext) :
    (⟨sum, .tracking⟩ : ChannelState).take tOn tOff x sample =
      (⟨sum + (sample - sum / 64), .tracking⟩, none) := by
  have : ¬ (tOn : Int) ≤ sample - sum / 64 := by omega
  simp [ChannelState.take, ChannelState.baseline, this]

/-- A sample of an open vehicle without a change of presence: only the tests of R43 and R44 follow. -/
theorem takeSample_open {s : State} {v : OpenVehicle} {presence : Bool}
    (hv : s.assembler.vehicle = some v) (hp : presence = s.assembler.presence)
    (hc : s.assembler.current ≠ none) (index : Index) (stamp : Time) :
    s.takeSample index stamp presence = ({ s with assembler := { s.assembler with
      current := some ⟨index, stamp⟩, presence, afterBreak := false
      vehicle := some { v with presenceSeen := v.presenceSeen || presence } } } : State).sampleTests := by
  subst hp
  have : s.assembler.current.isNone = false := by cases h : s.assembler.current <;> simp_all
  unfold State.takeSample
  simp [hv, this]

end Sys2Proof.Machine
end

