-- ==== Sys2Proof/Laws/Ops.lean ====
section
/-! SUPPORT. What the shared operations can do: outputs settled after a command, the transmit queue, the Span Table, claims. -/

namespace Sys2Proof.Machine

/-! ## Commands and outputs -/

/-- A command whose meaning is `done u` completes in `u` with its outputs settled. -/
theorem completes_of_done {c : Instr} {s u : State} {p : State → Prop} (h : exec c s = done u)
    (hp : p u.settle) : Completes c s p := ⟨u.settle, h, hp⟩

@[simp] theorem done_eq (s : State) : done s = .next s.settle := rfl

@[simp] theorem settle_fault (s : State) : s.settle.control.fault = s.faultOutput := rfl

theorem settle_control (s : State) : s.settle.control = { s.control with fault := s.faultOutput } := rfl

@[simp] theorem LampState.settle_command (l : LampState) (now : Time) (command check : Bool) :
    (l.settle now command check).command = command := by
  unfold LampState.settle; split
  · split <;> rfl
  · rfl

@[simp] theorem LampState.settle_current (l : LampState) (now : Time) (command check : Bool) :
    (l.settle now command check).current = l.current := by
  unfold LampState.settle; split
  · split <;> rfl
  · rfl

/-- A lamp without the check of 09 R151, and a lamp that agrees, has no mark and no timer. -/
theorem LampState.settle_quiet (l : LampState) (now : Time) (command check : Bool)
    (h : check = false ∨ command = l.current) :
    l.settle now command check = { command, current := l.current, mark := false, timer := none } := by
  unfold LampState.settle
  rcases h with h | h
  · simp [h]
  · cases check
    · rfl
    · cases command <;> simp [disagreement, ← h]

/-- A checked lamp that disagrees keeps its mark, and its timer where that has the same kind (09 R150). -/
theorem LampState.settle_disagrees (l : LampState) (now : Time) (command : Bool) (k : Disagreement)
    (h : disagreement command l.current = some k) :
    l.settle now command true =
      { command, current := l.current, mark := l.mark
        timer := some (match l.timer with
          | none => { kind := k, start := now }
          | some t => if t.kind = k then t else { kind := k, start := now }) } := by
  unfold LampState.settle
  generalize disagreement command l.current = d at h ⊢
  subst h
  rfl

@[simp] theorem settle_divert_command (s : State) : s.settle.sign.divert.command = s.divertCommand := by
  simp [State.settle, State.settleFault, State.settleLamps, State.settleLongHold]; rfl

@[simp] theorem settle_closed_command (s : State) : s.settle.sign.closed.command = s.closedCommand := by
  simp [State.settle, State.settleFault, State.settleLamps, State.settleLongHold]; rfl

theorem settle_sign (s : State) : s.settle.sign =
    { s.sign with
      longHoldTimer :=
        if s.lineHeld && !s.sign.closeIn then some (s.sign.longHoldTimer.getD s.now) else none
      divert := s.sign.divert.settle s.now s.divertCommand s.lampCheck
      closed := s.sign.closed.settle s.now s.closedCommand s.lampCheck } := rfl

/-! ## Frames of a command -/

theorem Part.same_refl (p : Part) (s : State) : p.same s s := by cases p <;> rfl

/-- The sign's part is as it was: the fields that no output derives. -/
theorem Part.same_sign_iff (s t : State) : Part.sign.same s t ↔
    t.sign.rawCloseIn = s.sign.rawCloseIn ∧ t.sign.rawSince = s.sign.rawSince
      ∧ t.sign.closeIn = s.sign.closeIn ∧ t.sign.closure = s.sign.closure
      ∧ t.sign.reopenTimer = s.sign.reopenTimer ∧ t.sign.longHold = s.sign.longHold
      ∧ t.sign.holdUntil = s.sign.holdUntil ∧ t.sign.divert.current = s.sign.divert.current
      ∧ t.sign.closed.current = s.sign.closed.current := by
  constructor
  · intro h
    simp only [Part.same] at h
    refine ⟨?_, ?_, ?_, ?_, ?_, ?_, ?_, ?_, ?_⟩ <;> rw [h]
  · rintro ⟨h1, h2, h3, h4, h5, h6, h7, h8, h9⟩
    simp only [Part.same]
    rw [← h1, ← h2, ← h3, ← h4, ← h5, ← h6, ← h7, ← h8, ← h9]

theorem Part.same_settle {p : Part} {s u : State} (h : p.same s u) : p.same s u.settle := by
  cases p
  case control => simp only [Part.same, settle_control] at *; rw [h]
  case sign =>
    rw [Part.same_sign_iff] at *
    simpa [settle_sign] using h
  all_goals exact h

/-- Settling the outputs changes no part (log 24). -/
theorem elsewhere_settle {changed : List Part} {dt : Time} {s u : State} (hn : u.now = s.now + dt)
    (hq : u.pending = s.pending) (h : ∀ p, p ∉ changed → p.same s u) : Elsewhere changed dt s u.settle :=
  ⟨hn, hq, fun p hp => Part.same_settle (h p hp)⟩

/-! ## The transmit queue (08 R135, R136) -/

@[simp] theorem insertFrame_length (f : TxFrame) (q : List TxFrame) :
    (insertFrame f q).length = q.length + 1 := by
  induction q with
  | nil => rfl
  | cons g l ih => unfold insertFrame; split <;> simp [ih]

theorem mem_insertFrame {f g : TxFrame} {q : List TxFrame} : g ∈ insertFrame f q ↔ g = f ∨ g ∈ q := by
  induction q with
  | nil => simp [insertFrame]
  | cons a l ih => unfold insertFrame; split <;> simp [ih]; tauto

/-- A VERDICT joins at the tail (08 R135). -/
theorem insertFrame_verdict {f : TxFrame} (h : f.kind = .verdict) (q : List TxFrame) :
    insertFrame f q = q ++ [f] := by
  induction q with
  | nil => rfl
  | cons g l ih =>
    have : ¬ f.kind.code < g.kind.code := by rw [h]; cases g.kind <;> decide
    simp [insertFrame, this, ih]

/-- The frame that the Line Controller builds. -/
def State.frameOf (s : State) (kind : FrameKind) (use : FrameUse) (payload : List Byte) : TxFrame :=
  { kind, bytes := frameBytes s.control.straps.number kind payload, use, arrival := s.line.nextArrival }

/-- With room in the queue a frame joins it and displaces nothing. -/
theorem putFrame_room {s : State} {kind : FrameKind} {use : FrameUse} {payload : List Byte}
    (h : s.line.txq.length < 8) :
    s.putFrame kind use payload =
      ({ s with line := { s.line with txq := insertFrame (s.frameOf kind use payload) s.line.txq } }, none) := by
  have h' : s.line.txq.length < txCapacity := h
  simp [State.putFrame, h', State.frameOf]

theorem enqueue_room {s : State} {kind : FrameKind} {use : FrameUse} {payload : List Byte}
    (h : s.line.txq.length < 8) :
    s.enqueue kind use payload =
      { s with line := { s.line with txq := insertFrame (s.frameOf kind use payload) s.line.txq } } := by
  have h' : s.line.txq.length < txCapacity := h
  simp [State.enqueue, putFrame_room h, h']

/-- The frame may be displaced (08 R136). -/
def LineControl.givesWay (l : LineControl) (g : TxFrame) : Bool := g.kind.droppable && !l.flying g

/-- The choice that `youngestDroppable` makes at one frame. -/
def LineControl.younger (l : LineControl) (best : Option TxFrame) (f : TxFrame) : Option TxFrame :=
  if l.givesWay f then
    match best with
    | none => some f
    | some b => if b.arrival < f.arrival then some f else best
  else best

theorem youngestDroppable_eq (l : LineControl) : l.youngestDroppable = l.txq.foldl l.younger none := rfl

/-- Where no frame gives way there is none to displace. -/
theorem youngestDroppable_none {l : LineControl} (h : ∀ f ∈ l.txq, l.givesWay f = false) :
    l.youngestDroppable = none := by
  rw [youngestDroppable_eq]
  have : ∀ (q : List TxFrame), (∀ f ∈ q, l.givesWay f = false) → q.foldl l.younger none = none := by
    intro q
    induction q with
    | nil => intro _; rfl
    | cons f q ih =>
      intro h
      have : l.younger none f = none := by simp [LineControl.younger, h f (by simp)]
      rw [List.foldl_cons, this]
      exact ih fun g hg => h g (by simp [hg])
  exact this _ h

/-- A frame that gives way and arrived after every other that does is the one displaced. -/
theorem youngestDroppable_some {l : LineControl} {d : TxFrame} (hm : d ∈ l.txq) (hd : l.givesWay d = true)
    (h : ∀ g ∈ l.txq, l.givesWay g = true → g ≠ d → g.arrival < d.arrival) : l.youngestDroppable = some d := by
  rw [youngestDroppable_eq]
  have key : ∀ (q : List TxFrame) (best : Option TxFrame),
      (∀ g ∈ q, l.givesWay g = true → g ≠ d → g.arrival < d.arrival) →
      (∀ x, best = some x → x = d ∨ x.arrival < d.arrival) → (d ∈ q ∨ best = some d) →
      q.foldl l.younger best = some d := by
    intro q
    induction q with
    | nil => intro best _ _ hm; simpa using hm
    | cons f q ih =>
      intro best h hb hm
      rw [List.foldl_cons]
      have hf : l.givesWay f = true → f = d ∨ f.arrival < d.arrival := fun e =>
        Classical.byCases (fun i : f = d => .inl i) fun i => .inr (h f (by simp) e i)
      refine ih _ (fun g hg => h g (by simp [hg])) ?_ ?_
      · intro x hx
        unfold LineControl.younger at hx
        split at hx
        · next e =>
          split at hx
          · cases hx; exact hf e
          · split at hx
            · cases hx; exact hf e
            · exact hb x hx
        · exact hb x hx
      · rcases hm with hm | hm
        · rcases List.mem_cons.1 hm with rfl | hm
          · right
            unfold LineControl.younger
            rw [if_pos hd]
            split
            · rfl
            · next b =>
              split
              · rfl
              · next hn =>
                rcases hb b rfl with rfl | hlt
                · rfl
                · exact absurd hlt hn
          · exact .inl hm
        · right
          subst hm
          unfold LineControl.younger
          split
          · next e =>
            dsimp only
            rcases hf e with rfl | hlt
            · simp
            · rw [if_neg (Nat.not_lt.2 (Nat.le_of_lt hlt))]
          · rfl
  exact key _ none h (by simp) (.inl hm)

/-- A VERDICT or REPORT that comes to a full queue, or any frame where none gives way, is counted and
discarded (08 R136); a replay frame discarded ends its replay (11 R170). -/
theorem putFrame_discarded {s : State} {kind : FrameKind} {use : FrameUse} {payload : List Byte}
    (h : 8 ≤ s.line.txq.length) (hk : kind.droppable = true ∨ s.line.youngestDroppable = none) :
    s.putFrame kind use payload =
      ({ s.countDrop with
          handler := if use = .replay then { s.handler with replay := none } else s.handler }, none) := by
  have h' : ¬ s.line.txq.length < txCapacity := by simpa [txCapacity] using h
  have hn : (if kind.droppable then none else s.line.youngestDroppable) = none := by
    rcases hk with hk | hk <;> simp [hk]
  unfold State.putFrame
  rw [if_neg h', hn]
  cases use <;> rfl

/-- Any other frame that comes to a full queue displaces the youngest that gives way (08 R136). -/
theorem putFrame_displaces {s : State} {kind : FrameKind} {use : FrameUse} {payload : List Byte}
    {d : TxFrame} (h : 8 ≤ s.line.txq.length) (hk : kind.droppable = false)
    (hd : s.line.youngestDroppable = some d) :
    s.putFrame kind use payload =
      ({ s.countDrop with line := { s.line with
          txq := insertFrame (s.frameOf kind use payload) (s.line.txq.erase d) } }, some d) := by
  have h' : ¬ s.line.txq.length < txCapacity := by simpa [txCapacity] using h
  have hs : (if kind.droppable then none else s.line.youngestDroppable) = some d := by simp [hk, hd]
  unfold State.putFrame
  rw [if_neg h', hs]
  rfl

/-- A frame that comes to a full queue and is discarded has left it: the head claim is pre-checked
(08 R135, R136). -/
theorem enqueue_discarded {s : State} {kind : FrameKind} {use : FrameUse} {payload : List Byte}
    (h : 8 ≤ s.line.txq.length) (hk : kind.droppable = true ∨ s.line.youngestDroppable = none) :
    s.enqueue kind use payload =
      ({ s.countDrop with
          handler := if use = .replay then { s.handler with replay := none } else s.handler } : State).preCheck := by
  have h' : ¬ s.line.txq.length < txCapacity := by simpa [txCapacity] using h
  simp [State.enqueue, putFrame_discarded h hk, h']

/-- So has the frame that another displaces; a replay then goes on (08 R135, R136; 11 R170). -/
theorem enqueue_displaces {s : State} {kind : FrameKind} {use : FrameUse} {payload : List Byte}
    {d : TxFrame} (h : 8 ≤ s.line.txq.length) (hk : kind.droppable = false)
    (hd : s.line.youngestDroppable = some d) :
    s.enqueue kind use payload =
      (({ s.countDrop with line := { s.line with
          txq := insertFrame (s.frameOf kind use payload) (s.line.txq.erase d) } } : State).preCheck).replayAfter
        d := by
  have h' : ¬ s.line.txq.length < txCapacity := by simpa [txCapacity] using h
  simp [State.enqueue, putFrame_displaces h hk hd, h']

theorem preCheck_none {s : State} (h : s.admission.claims = []) : s.preCheck = s := by
  simp [State.preCheck, h]

/-- The head claim, if there is one, is not to be offered now: it is not WAITING, it may not be offered, or its
frame would find no place (05 R79). -/
def State.headRests (s : State) : Prop :=
  ∀ c, s.admission.claims.head? = some c →
    c.state ≠ .waiting ∨ s.offerable c = false ∨ s.hasRoom .claim = false

theorem preCheck_rests {s : State} (h : s.headRests) : s.preCheck = s := by
  unfold State.preCheck
  split
  · rfl
  · next c _ e => rcases h c (by simp [e]) with h | h | h <;> simp [h]

theorem preCheck_busy {s : State} (h : ∀ d, s.admission.claims.head? = some d → d.state ≠ .waiting) :
    s.preCheck = s := preCheck_rests fun c hc => .inl (h c hc)

/-- The next frame of a replay changes nothing that a pre-check looks at but the queue, and a queue that has no
place for a CLAIM stays as it is. -/
theorem replayNext_keeps (s : State) :
    s.replayNext.admission = s.admission ∧ (∀ c, s.replayNext.offerable c = s.offerable c)
      ∧ (s.hasRoom .claim = false → s.replayNext.line = s.line) := by
  unfold State.replayNext
  split
  · exact ⟨rfl, fun _ => rfl, fun _ => rfl⟩
  · exact ⟨rfl, fun _ => rfl, fun _ => rfl⟩
  · next f rest _ =>
    generalize hu : ({ s with handler := { s.handler with replay := some rest } } : State) = u
    have hl : u.line = s.line := by rw [← hu]
    refine ⟨?_, ?_, ?_⟩
    · unfold State.putFrame; dsimp only; split
      · rw [← hu]
      · split <;> rw [← hu] <;> rfl
    · intro c
      unfold State.putFrame; dsimp only; split
      · rw [← hu]; rfl
      · split <;> rw [← hu] <;> rfl
    · intro hr
      simp only [State.hasRoom, Bool.or_eq_false_iff, decide_eq_false_iff_not] at hr
      have hn : u.line.youngestDroppable = none := by
        rw [hl]; simpa [FrameKind.droppable] using hr.2
      rw [putFrame_discarded (by rw [hl]; simpa [txCapacity] using hr.1) (.inr hn)]
      exact hl

theorem replayAfter_keeps (s : State) (f : TxFrame) :
    (s.replayAfter f).admission = s.admission ∧ (∀ c, (s.replayAfter f).offerable c = s.offerable c)
      ∧ (s.hasRoom .claim = false → (s.replayAfter f).line = s.line) := by
  unfold State.replayAfter
  split
  · exact replayNext_keeps s
  · exact ⟨rfl, fun _ => rfl, fun _ => rfl⟩

theorem headRests_replayAfter {s : State} (h : s.headRests) (f : TxFrame) : (s.replayAfter f).headRests := by
  obtain ⟨ha, ho, hl⟩ := replayAfter_keeps s f
  intro c hc
  rw [ha] at hc
  rcases h c hc with h | h | h
  · exact .inl h
  · exact .inr (.inl (by rw [ho, h]))
  · exact .inr (.inr (by simpa [State.hasRoom, hl h] using h))

/-- After a pre-check there is nothing to pre-check. -/
theorem headRests_preCheck (s : State) : s.preCheck.headRests := by
  have offered : ∀ (u : State) (c : Claim),
      (u.setHeadClaim { c with state := .offeredQueued }).headRests := by
    intro u c d hd
    simp only [State.setHeadClaim, List.head?_cons, Option.some.injEq] at hd
    exact .inl (by rw [← hd]; simp)
  unfold State.preCheck
  split
  · next e => intro c hc; simp [e] at hc
  · next c l e =>
    split
    · dsimp only
      split
      · exact offered _ _
      · exact headRests_replayAfter (offered _ _) _
    · next hn =>
      intro d hd
      simp only [e, List.head?_cons, Option.some.injEq] at hd
      subst hd
      by_cases hw : c.state = .waiting
      · right
        by_cases ho : s.offerable c = true
        · right; simpa [hw, ho] using hn
        · left; simpa using ho
      · exact .inl hw

/-- A pre-check repeated after the next frame of a replay changes nothing: where that frame is discarded, it has
been made already (08 R135). -/
theorem preCheck_replayAfter (s : State) (f : TxFrame) :
    (s.preCheck.replayAfter f).preCheck = s.preCheck.replayAfter f :=
  preCheck_rests (headRests_replayAfter (headRests_preCheck s) f)

theorem endClaims_nil (s : State) (o : VehicleOutcome) : s.endClaims [] o = s := rfl

theorem dropUncoordinated_none {s : State} (h : s.admission.claims = []) : s.dropUncoordinated = s := by
  unfold State.dropUncoordinated; split
  · rfl
  · simp [h, State.endClaims]

/-! ## Finishing claims (05 R77, R84, R86, R89, R90) -/

/-- The sign hold that a divert notice leaves (09 R149). -/
theorem divertNotice_eq (s : State) : s.divertNotice = { s with sign := { s.sign with
    holdUntil := some ((s.sign.holdUntil.map fun h => later h (s.after (s.signHold * 1000))).getD
      (s.after (s.signHold * 1000))) } } := by
  unfold State.divertNotice; cases h : s.sign.holdUntil <;> rfl

/-- With room in the queue a claim's vehicle is finished by its outcome in the ring, its VERDICT at the
tail, and a sign hold for a diversion (05 R77; 09 R149). -/
theorem finishClaim_room {s : State} (c : Claim) (o : VehicleOutcome) (h : s.line.txq.length < 8) :
    s.finishClaim c o = { s with
      assembler := { s.assembler with history := s.assembler.history.map fun r =>
        if r.tag == c.vehicle.tag then { r with outcome := some o, lastObjection := c.lastObjection } else r }
      line := { s.line with txq := s.line.txq
        ++ [s.frameOf .verdict .ordinary (verdictPayload (c.finished o))] }
      sign := if o.isDivert then s.divertNotice.sign else s.sign } := by
  unfold State.finishClaim State.announce
  have e := enqueue_room (s := s.recall (c.finished o)) (kind := .verdict) (use := .ordinary)
    (payload := verdictPayload (c.finished o)) h
  rw [insertFrame_verdict rfl] at e
  dsimp only
  rw [e]
  cases o.isDivert <;> rfl

/-- The frames left in the queue when a claim leaves with its own (05 R84, R86, R89, R90). -/
def State.txqWithout (s : State) (c : Claim) : List TxFrame :=
  if c.state = .offeredQueued ∨ c.state = .offeredInFlight then s.line.txq.filter fun g => g.kind != .claim
  else s.line.txq

theorem txqWithout_length_le (s : State) (c : Claim) : (s.txqWithout c).length ≤ s.line.txq.length := by
  unfold State.txqWithout; split
  · exact List.length_filter_le _ _
  · exact Nat.le_refl _

/-- A claim without a late mark leaves the queue with its frame, and its vehicle is finished (05 R77). -/
theorem endClaim_eq (s : State) {c : Claim} (o : VehicleOutcome) (hl : c.lateMark = none) :
    s.endClaim c o = ({ s with
      admission := { s.admission with
        claims := s.admission.claims.filter fun d => d.vehicle.tag != c.vehicle.tag }
      line := { s.line with txq := s.txqWithout c } } : State).finishClaim c o := by
  unfold State.endClaim State.txqWithout
  rw [hl]
  cases h : c.state <;> simp [State.dropClaim, State.removeClaimFrame]

/-- A diversion of a claim's vehicle, from a state `w` with room in its queue that has come from `s` with the
ring and the sign as they were (05 R77; 09 R149). -/
theorem divertedClaim_settle {s w : State} {c : Claim} {o : VehicleOutcome} {dt : Time}
    (ho : o.isDivert = true) (hr : w.line.txq.length < 8) (ha : w.assembler = s.assembler)
    (hg : w.sign = s.sign) (hn : w.now = s.now + dt) (hc : w.control.straps = s.control.straps)
    (hh : w.signHold = s.signHold) : DivertedClaim c o w.line dt s (w.finishClaim c o).settle := by
  rw [finishClaim_room c o hr, ho, divertNotice_eq]
  refine ⟨?_, ⟨w.frameOf .verdict .ordinary (verdictPayload (c.finished o)), rfl, ?_, rfl⟩, ?_⟩
  · simp [ha]
  · simp [State.frameOf, hc, Claim.finished]
  · refine Part.same_settle ?_
    simp [Part.same, State.after, hn, hg, hh]
    rfl

/-- A claim in flight at the head of the queue is the claim in flight (05 R71, R80). -/
theorem flyingClaim_head {s : State} {c : Claim} {rest : List Claim} (h : s.admission.claims = c :: rest)
    (hc : c.state = .offeredInFlight) : s.flyingClaim = some c := by
  simp [State.flyingClaim, h, hc]

/-- A head claim with a tag of its own leaves the queue. -/
theorem dropClaim_head {s : State} {c : Claim} {rest : List Claim} (h : s.admission.claims = c :: rest)
    (hd : ∀ d ∈ rest, d.vehicle.tag ≠ c.vehicle.tag) :
    s.dropClaim c.vehicle.tag = { s with admission := { s.admission with claims := rest } } := by
  have : rest.filter (fun d => d.vehicle.tag != c.vehicle.tag) = rest :=
    List.filter_eq_self.2 fun d m => by simpa using hd d m
  simp [State.dropClaim, h, this]

/-- A head claim with a tag of its own changes. -/
theorem mapClaim_head {s : State} {c : Claim} {rest : List Claim} {f : Claim → Claim}
    (h : s.admission.claims = c :: rest) (hd : ∀ d ∈ rest, d.vehicle.tag ≠ c.vehicle.tag) :
    s.mapClaim c.vehicle.tag f = { s with admission := { s.admission with claims := f c :: rest } } := by
  have : rest.map (fun d => if d.vehicle.tag = c.vehicle.tag then f d else d) = rest := by
    conv => rhs; rw [← List.map_id rest]
    exact List.map_congr_left fun d m => by simp [hd d m]
  simp [State.mapClaim, h, this]

/-- The only claim, not in flight and without a late mark, ends at a station that is not coordinated (05 R90). -/
theorem dropUncoordinated_one {s : State} {c : Claim} (h : s.coordinated = false)
    (hc : s.admission.claims = [c]) (hs : c.state ≠ .offeredInFlight) (hl : c.lateMark = none) :
    s.dropUncoordinated = ({ s with
      admission := { s.admission with claims := [] }
      line := { s.line with txq := s.txqWithout c } } : State).finishClaim c .divertUncoordinated := by
  simp [State.dropUncoordinated, h, hc, hs, State.endClaims, endClaim_eq s _ hl]

theorem dropUncoordinated_coordinated {s : State} (h : s.coordinated = true) : s.dropUncoordinated = s := by
  simp [State.dropUncoordinated, h]

end Sys2Proof.Machine
end

