-- ==== Sys2Proof/Laws/Line.lean ====
section
/-! SUPPORT. How levels of the line read (08 R122), away from the bounds that two bands share; how attempts and frames end. -/

namespace Sys2Proof.Machine

theorem belowBound_lt {tb us k : Nat} (h : 12 * us < k * tb) : belowBound tb us k = true := by
  simp [belowBound, Nat.ne_of_lt h, h]

theorem belowBound_gt {tb us k : Nat} (h : k * tb < 12 * us) : belowBound tb us k = false := by
  simp [belowBound, Nat.ne_of_gt h, Nat.le_of_lt h]

/-- 2.5 to 3.5 bit times: SOS. -/
theorem classify_sos {tb us : Nat} (h : 30 * tb < 12 * us) (h' : 12 * us < 42 * tb) :
    classify tb us = .sos := by
  have h1 : ¬ 6 * us < tb := by omega
  have h2 : ¬ 8 * tb ≤ us := by omega
  have h3 : ¬ 2 * us < 3 * tb := by omega
  have b6 := belowBound_gt (show 6 * tb < 12 * us by omega)
  have b10 := belowBound_gt (show 10 * tb < 12 * us by omega)
  have b30 := belowBound_gt h
  have b42 := belowBound_lt h'
  simp [classify, h1, h2, h3, b6, b10, b30, b42]

/-- 5/6 to 1.5 bit times: a short normalization symbol. -/
theorem classify_short {tb us : Nat} (h : 10 * tb < 12 * us) (h' : 2 * us < 3 * tb) :
    classify tb us = .normShort := by
  have h1 : ¬ 6 * us < tb := by omega
  have h2 : ¬ 8 * tb ≤ us := by omega
  have b6 := belowBound_gt (show 6 * tb < 12 * us by omega)
  have b10 := belowBound_gt h
  simp [classify, h1, h2, h', b6, b10]

/-- A level over 1/6 bit time, below HOLD and outside the SOS band, is neither noise, SOS nor HOLD. -/
theorem classify_outside {tb us : Nat} (h : tb < 6 * us) (h' : us < 8 * tb)
    (hs : 12 * us < 30 * tb ∨ 42 * tb < 12 * us) :
    classify tb us ≠ .noise ∧ classify tb us ≠ .sos ∧ classify tb us ≠ .hold := by
  have h1 : ¬ 6 * us < tb := by omega
  have h2 : ¬ 8 * tb ≤ us := by omega
  rcases hs with hs | hs
  · have b30 := belowBound_lt hs
    simp only [classify, if_neg h1, if_neg h2, b30]
    repeat' split
    all_goals simp_all
  · have b42 := belowBound_gt hs
    simp only [classify, if_neg h1, if_neg h2, b42]
    repeat' split
    all_goals simp_all

/-! ## A frame or response that is driven no further (08 R138) -/

@[simp] theorem InFlight.stop_frame (x : InFlight) : x.stop.frame = x.frame := rfl
@[simp] theorem InFlight.stop_phase (x : InFlight) : x.stop.phase = x.phase := rfl
@[simp] theorem InFlight.stop_joined (x : InFlight) : x.stop.joined = x.joined := rfl
@[simp] theorem InFlight.stop_stopped (x : InFlight) : x.stop.stopped = true := rfl
@[simp] theorem ResponseDrive.stop_bytes (r : ResponseDrive) : r.stop.bytes = r.bytes := rfl
@[simp] theorem ResponseDrive.stop_isReply (r : ResponseDrive) : r.stop.isReply = r.isReply := rfl
@[simp] theorem ResponseDrive.stop_stopped (r : ResponseDrive) : r.stop.stopped = true := rfl
@[simp] theorem LineControl.demandHold_holdDemand (l : LineControl) : l.demandHold.holdDemand = true := rfl
@[simp] theorem LineControl.demandHold_phase (l : LineControl) : l.demandHold.phase = l.phase := rfl
@[simp] theorem LineControl.demandHold_state (l : LineControl) : l.demandHold.state = l.state := rfl
@[simp] theorem LineControl.demandHold_txq (l : LineControl) : l.demandHold.txq = l.txq := rfl
@[simp] theorem LineControl.demandHold_inFlight (l : LineControl) :
    l.demandHold.inFlight = l.inFlight.map InFlight.stop := rfl
@[simp] theorem LineControl.demandHold_response (l : LineControl) :
    l.demandHold.response = l.response.map ResponseDrive.stop := rfl

/-- A sender that has stopped neither starts nor drives any cell. -/
theorem InFlight.stopped_drives {x : InFlight} (h : x.stopped = true) (cell : Nat) :
    x.drives cell = false ∧ x.starting = false := by simp [InFlight.drives, InFlight.starting, h]

/-! ## The line state stands while frames, claims and attempts end (08 R139) -/

@[simp] theorem putFrame_lineState (s : State) (k u p) : (s.putFrame k u p).1.line.state = s.line.state := by
  unfold State.putFrame; dsimp only; repeat' split
  all_goals rfl

@[simp] theorem replayNext_lineState (s : State) : s.replayNext.line.state = s.line.state := by
  unfold State.replayNext; split <;> first | rfl | (rw [putFrame_lineState])

@[simp] theorem replayAfter_lineState (s : State) (f) : (s.replayAfter f).line.state = s.line.state := by
  unfold State.replayAfter; split; exact replayNext_lineState s; rfl

@[simp] theorem preCheck_lineState (s : State) : s.preCheck.line.state = s.line.state := by
  unfold State.preCheck; split
  · rfl
  · split
    · dsimp only; split
      · exact putFrame_lineState s _ _ _
      · rw [replayAfter_lineState]; exact putFrame_lineState s _ _ _
    · rfl

@[simp] theorem enqueue_lineState (s : State) (k u p) : (s.enqueue k u p).line.state = s.line.state := by
  unfold State.enqueue; dsimp only; split
  · exact putFrame_lineState s _ _ _
  · split
    · rw [preCheck_lineState]; exact putFrame_lineState s _ _ _
    · rw [replayAfter_lineState, preCheck_lineState]; exact putFrame_lineState s _ _ _

@[simp] theorem finishClaim_lineState (s : State) (c o) : (s.finishClaim c o).line.state = s.line.state := by
  unfold State.finishClaim State.announce; dsimp only; split
  · unfold State.divertNotice
    exact enqueue_lineState _ _ _ _
  · exact enqueue_lineState _ _ _ _

@[simp] theorem endClaim_lineState (s : State) (c o) : (s.endClaim c o).line.state = s.line.state := by
  unfold State.endClaim; dsimp only
  split <;> split <;> first | rfl | exact finishClaim_lineState _ _ _

@[simp] theorem endClaims_lineState (cs : List Claim) (o) :
    ∀ s : State, (s.endClaims cs o).line.state = s.line.state := by
  induction cs with
  | nil => intro s; rfl
  | cons c l ih => intro s; show ((s.endClaim c o).endClaims l o).line.state = _; rw [ih, endClaim_lineState]

@[simp] theorem dropUncoordinated_lineState (s : State) : s.dropUncoordinated.line.state = s.line.state := by
  unfold State.dropUncoordinated; split; rfl; exact endClaims_lineState _ _ _

@[simp] theorem claimAttemptEnded_lineState (s : State) : s.claimAttemptEnded.line.state = s.line.state := by
  unfold State.claimAttemptEnded; split
  · rfl
  · split
    · exact preCheck_lineState _
    · rfl

@[simp] theorem attemptEnded_lineState (s : State) (f) : (s.attemptEnded f).line.state = s.line.state := by
  unfold State.attemptEnded; split
  · rfl
  all_goals split <;> first | rfl | (rw [dropUncoordinated_lineState, claimAttemptEnded_lineState])

/-! ## The end of an attempt (08 R128 to R130) -/

theorem endAttempt_none {s : State} (h : s.line.inFlight = none) : s.endAttempt = s := by
  simp [State.endAttempt, h]

/-- The attempt of a frame that is neither a CLAIM nor the isolation frame ends: the frame is no longer
in flight, and nothing else changes. -/
theorem endAttempt_plain {s : State} {x : InFlight} (h : s.line.inFlight = some x)
    (hk : x.frame.kind ≠ .claim) (hu : x.frame.use ≠ .isolation) : s.endAttempt = s.groundFrame := by
  unfold State.endAttempt; rw [h]; dsimp only
  unfold State.attemptEnded
  cases h : x.frame.use <;> simp_all

/-- The attempt of a CLAIM whose claim, with a tag of its own, is at the head without a late mark: the claim is
offered with its frame queued (05 R83). -/
theorem claimAttemptEnded_head {s : State} {c : Claim} {rest : List Claim}
    (h : s.admission.claims = c :: rest) (hc : c.state = .offeredInFlight) (hl : c.lateMark = none)
    (hd : ∀ d ∈ rest, d.vehicle.tag ≠ c.vehicle.tag) :
    s.claimAttemptEnded =
      { s with admission := { s.admission with claims := { c with state := .offeredQueued } :: rest } } := by
  unfold State.claimAttemptEnded
  rw [flyingClaim_head h hc]
  dsimp only
  split
  · next e => simp [hl] at e
  · exact mapClaim_head h hd

/-- One with a late mark leaves with its frame, and the next claim is not offered unless it is WAITING
(05 R88, R79). -/
theorem claimAttemptEnded_late {s : State} {c : Claim} {rest : List Claim}
    (h : s.admission.claims = c :: rest) (hc : c.state = .offeredInFlight) (hl : c.lateMark ≠ none)
    (hd : ∀ d ∈ rest, d.vehicle.tag ≠ c.vehicle.tag) (hw : ∀ d, rest.head? = some d → d.state ≠ .waiting) :
    s.claimAttemptEnded =
      { s with
        admission := { s.admission with claims := rest }
        line := { s.line with txq := s.line.txq.filter fun g => g.kind != .claim } } := by
  unfold State.claimAttemptEnded
  rw [flyingClaim_head h hc]
  dsimp only
  cases e : c.lateMark with
  | none => exact absurd e hl
  | some o =>
    dsimp only
    rw [dropClaim_head h hd]
    exact preCheck_busy hw

theorem endStopped_none {s : State} (h : s.line.inFlight = none) : s.endStopped = s := by
  simp [State.endStopped, h]

/-! ## The end of a frame (08 R126, R131) -/

/-- END_OF_FRAME of this station's own frame while no HOLD is demanded. -/
theorem endOfFrame_own {s : State} {x : InFlight} {levels : List Nat} (hx : s.line.inFlight = some x)
    (hs : x.stopped = false) (ho : s.line.rx.own = true) (hd : s.line.holdDemand = false)
    (hp : s.line.phase = .window ∨ s.line.phase = .response) (hr : s.line.response = none) :
    endOfFrameStep s levels =
      ((s.noteResponseError (match s.line.phase, s.line.rx.opening with
          | .response, some .short => responseBroken s.bitTime .short levels
          | .response, some .long => responseBroken s.bitTime .long levels
          | _, _ => false)).frameOver).completeFrame x.frame (s.line.phase == .response)
        (readObjection s.bitTime s.line.rx.opening levels) := by
  unfold endOfFrameStep
  rw [if_neg (by rcases hp with hp | hp <;> simp [LineControl.holdsOwn, hd, hp])]
  dsimp only
  rw [ho, hx, hr]
  simp only [if_true, hs, Option.isSome_none, Bool.or_false]
  rfl

/-- END_OF_FRAME of another station's frame received good, with no response or a well-formed reply. -/
theorem endOfFrame_other {s : State} {levels : List Nat} (hx : s.line.inFlight = none)
    (ho : s.line.rx.own = false) (hg : s.line.rx.good = true)
    (hd : s.line.holdDemand = false ∨ s.line.response = none)
    (hp : s.line.phase = .window ∨ s.line.phase = .response ∧ s.line.rx.opening = some .long
      ∧ responseBroken s.bitTime .long levels = false) :
    endOfFrameStep s levels =
      s.frameOver.handOn s.line.rx.bytes (s.line.phase == .response || s.line.response.isSome)
        s.handler.prepared s.line.response := by
  have hn : ∀ b, b = false → s.noteResponseError b = s := by
    intro b hb; subst hb; simp [State.noteResponseError]
  unfold endOfFrameStep
  rw [if_neg (by rcases hp with hp | ⟨hp, _⟩ <;> rcases hd with hd | hd <;>
    simp [LineControl.holdsOwn, hd, hp, hx])]
  dsimp only
  rw [hn]
  · rw [ho, endStopped_none (show s.frameOver.line.inFlight = none from hx)]
    simp only [if_false, Bool.false_eq_true, hg, if_true]
  · rcases hp with hp | ⟨hp, h, hb⟩
    · rw [hp]
    · rw [hp, h]; exact hb

end Sys2Proof.Machine
end

