-- ==== Sys2Proof/Tests/Slice0.lean ====
section
/-! SUPPORT. Tests: ill-formed commands are refused, the spec's worked sequences, and witnesses for the statements' hypotheses. -/

namespace Sys2Proof.Machine.Tests

-- Each evaluation by the kernel waits for the declarations before it, so they are elaborated one after another.
set_option Elab.async false

/-! ## Small states -/

/-- The state that a command leads to. -/
def run (c : Instr) (s : State) : State :=
  match exec c s with
  | .next t => t
  | .fault f => nomatch f
  | .refused _ => s

/-- The site section of 4.13 and 5.9. -/
def site : SiteSection :=
  { axleLimit := 1150, grossLimit := 4400, claimThreshold := 1800, normalTolerance := 10
    degradedTolerance := 25, spanBudget := 11000, lightAllowance := 1500, maxHeavies := 4
    dwellMargin := 25, dwellRefSpeed := 20000, dwellCap := 3000, reopenTime := 2, signHold := 8
    matchTolerance := 20, minTransit := 300 }

/-- The factors of 4.6 in every band: 16 700 at the fifth node, 16 300 at the sixth. -/
def band : List Nat := [16384, 16384, 16384, 16384, 16700, 16300, 16384, 16384]

/-- The lane section of 4.13. -/
def lane : LaneSection :=
  { spanEnd := .west, signFitted := true, tOn := 400, tOff := 200, rowSpacing := 3000, window := 48
    vMin := 1389, vMax := 41667, maxAxleSpacing := 15000, stuckLimit := 60, defaultSpeed := 11111
    lightWheelbase := 3200, scaleAL := 26000000, scaleAR := 25950000, scaleBL := 26400000
    scaleBR := 26220000, nodes := [2000, 5000, 8000, 12000, 16667, 22222, 30000, 40000]
    factors := [band, band, band, band], tempBounds := [0, 10, 25]
    decisionDistance := 100000, farDistance := 250000 }

def cal : Calibration := { site, lane, checksum := 0x1234 }

def rest : Reading := { al := 1000, ar := 1000, bl := 1000, br := 1000, presence := false, temperature := 14 }

/-- Station 3, an entry station: coordinated, the line idle, nothing in any queue. -/
def base : State :=
  { State.reset with
    now := 1000
    control := { StationControl.reset with
      mode := .active, calibration := some cal, straps := ⟨3, .entry, .standard⟩, startStep := .done }
    port := { SamplePort.reset with
      head := .ready, lastGood := some ⟨65533, rest⟩, hold := some rest, lastIndex := some 196605
      headTimer := some 1050 }
    line := { LineControl.reset with phase := .idle } }

/-- The start of a start: straps sampled, the self-test next, the head absent. -/
def starting : State := run (.powerOn ⟨3, .entry, .standard⟩) State.reset

/-- The lorry of 4.13, weighed: tag 41, 3 520 lu assessed. -/
def lorry : VehicleRecord :=
  { origin := 3, tag := 41, firstStamp := 800, firstRowB := some 900, speed := some 20480, band := some 3
    axleCount := 4, axles := [], flags := .none, measuredGross := 3200, assessedGross := 3520
    verdict := some .heavy, lightMark := false, outcome := none, deadline := none, lastObjection := none
    closeTime := 950 }

def claim : Claim :=
  { vehicle := lorry, deadline := 22000, dwell := 1783, state := .waiting, objectionSeen := false
    lastObjection := none, lateMark := none }

def entry (origin : StationNo) (tag : Tag) (assessed : Nat) : SpanEntry :=
  { origin, tag, entryEnd := .west, axleCount := 4, measuredGross := 2000, assessedGross := assessed
    dwell := 900, admission := 500, expiry := 90500, departing := false }

def withClaims (s : State) (cs : List Claim) : State := { s with admission := ⟨none, cs⟩ }

def withEntries (s : State) (es : List SpanEntry) : State :=
  { s with span := { s.span with entries := es, sum := loadOf es, count := es.length } }

def withLine (s : State) (f : LineControl → LineControl) : State := { s with line := f s.line }

/-- The CLAIM of 8.7: station 3, tag 41, 3 520 lu, dwell 1 783 ds. -/
def claimFrame : TxFrame :=
  { kind := .claim, bytes := frameBytes 3 .claim (claimPayload lorry 1783 .west), use := .ordinary, arrival := 1 }

def statusFrame : TxFrame :=
  { kind := .status, bytes := frameBytes 3 .status (List.replicate 10 0), use := .ordinary, arrival := 1 }

/-- A sample frame with all four strips at one level. -/
def sampleBytes (sequence level : Nat) (temperature : Byte) : List Byte :=
  let body := 0xC5 :: be16 sequence ++ be16 level ++ be16 level ++ be16 level ++ be16 level ++ [0, temperature]
  body ++ [crc8 body]

/-- A COMMAND from a maintenance set to station 3. -/
def commandBytes (code : Byte) (argument : Nat) : List Byte :=
  let body := [0x5E, 0x33, code] ++ be16 argument
  body ++ [crc8 body]

theorem test_base_is_coordinated : base.coordinated = true := by decide

/-! ## WellFormed: each check refuses an ill-formed command -/

theorem test_illformed_time_over_half_range : Instr.wellFormed (.lineIdle 0x80000000) = false := by decide
theorem test_illformed_sample_frame_short : Instr.wellFormed (.sampleFrame 1 [0xC5]) = false := by decide
theorem test_illformed_sample_frame_sync :
    Instr.wellFormed (.sampleFrame 1 (0xC4 :: List.replicate 13 0)) = false := by decide
theorem test_illformed_partial_frame_whole :
    Instr.wellFormed (.sampleByteTimeout 1 (sampleBytes 1 0 0)) = false := by decide
theorem test_illformed_partial_frame_empty : Instr.wellFormed (.sampleByteTimeout 1 []) = false := by decide
theorem test_illformed_entry_of_station_15 : Instr.wellFormed (.entryExpiry 1 15 0) = false := by decide
theorem test_illformed_after_byte_without_byte :
    Instr.wellFormed (.receiveFramingError 1 (.recessiveAfterByte 150) []) = false := by decide
theorem test_illformed_after_sos_with_byte :
    Instr.wellFormed (.receiveFramingError 1 (.recessiveAfterSos 200) [0]) = false := by decide
theorem test_illformed_fourteenth_byte_too_early :
    Instr.wellFormed (.receiveFramingError 1 .fourteenthByte [0]) = false := by decide
theorem test_illformed_fourteen_bytes_before_error :
    Instr.wellFormed (.receiveFramingError 1 (.dominant 120) (List.replicate 14 0)) = false := by decide
theorem test_illformed_arbitration_cell : Instr.wellFormed (.arbitrationLoss 1 8) = false := by decide
theorem test_illformed_bit_error_cell : Instr.wellFormed (.bitError 1 104) = false := by decide
theorem test_illformed_data_over_13_bytes :
    Instr.wellFormed (.endOfData 1 (List.replicate 14 0)) = false := by decide
theorem test_illformed_record_length :
    Instr.wellFormed (.calibrationLoadEnd 1 (List.replicate 157 0)) = false := by
  decide +kernel
theorem test_illformed_sos_length : Instr.wellFormed (.sosReceived 1 0) = false := by decide
theorem test_illformed_response_length : Instr.wellFormed (.responseSeen 1 0) = false := by decide
theorem test_wellformed_frame : Instr.wellFormed (.sampleFrame 1 (sampleBytes 65534 1000 14)) = true := by
  decide +kernel

/-! ## Worked sequences of the spec -/

/-- 1.5, frame 1: the index after 196 605 is 196 606. -/
theorem test_sample_frame_normal :
    (run (.sampleFrame 1 (sampleBytes 65534 1000 14)) base).port.fifo.map FifoEntry.index = [196606] := by
  decide +kernel

/-- 1.5, frame 3: sequence 1 after 65 534 is a gap of 2, with index 196 609. -/
theorem test_sample_frame_gap :
    let s := run (.sampleFrame 1 (sampleBytes 65534 1000 14)) base
    ((run (.sampleFrame 1 (sampleBytes 1 1000 14)) s).port.fifo.map fun e => (e.index, e.gaps))
      = [(196606, 0), (196609, 2)] := by decide +kernel

/-- 1.5, frame 6: the resync index of sequence 2 000 after 196 610. -/
theorem test_resync_index : resyncIndex (some 196610) 2000 = 198608 := by decide +kernel

/-- 1.11: six samples on channel AL, the third a gap sample. -/
theorem test_pulse :
    let x : SampleContext := ⟨7, 9, 14, false, false⟩
    let c : ChannelState := { sum := 64000, mode := .tracking }
    let c := (c.take 400 200 x 1010).1
    let c := (c.take 400 200 x 1600).1
    let c := (c.take 400 200 { x with isGap := true } 1600).1
    let c := (c.take 400 200 x 2400).1
    let c := (c.take 400 200 x 1300).1
    c.take 400 200 x 1150 = ({ sum := 64160, mode := .tracking },
      some { onset := 7, stamp := 9, temperature := 14, area := 2900, peak := 1400, length := 4, gap := true }) := by
  decide +kernel

/-- 2.12, steps 4, 5: BR merges, and the earlier BL onset becomes the first onset. -/
theorem test_row_axle_merge :
    let br : RowAxle := ⟨.b, 100603, 0, 14, none, some 300000, false⟩
    let merged := br.absorb ⟨.br, 100625, 0, 14, 340000, 600, false⟩
    let joined := merged.absorb ⟨.bl, 100600, 0, 14, 652000, 600, false⟩
    (merged.right, joined.first, joined.left) = (some 640000, 100600, some 652000) := by decide +kernel

/-- 2.12: the limits, and the speeds of axles 1 and 2. -/
theorem test_axle_speeds :
    (deltaMin 3000 41667, deltaMax 3000 1389, roundHalfUp (3000 * 4096) 600, roundHalfUp (3000 * 4096) 602)
      = (295, 8846, 20480, 20412) := by decide +kernel

def axle (reference : Index) (speed : Option Nat) : Axle :=
  { reference, stamp := 0, temperature := 14, rowBStamp := none, speed, al := none, ar := none, bl := none
    br := none, singleRow := false, oneSided := false, gap := false, load := none, spacing := none }

def openList : List Axle :=
  [axle 200000 (some 13800), axle 200790 (some 13790), axle 205790 (some 13700), axle 206690 (some 13720),
   axle 209090 (some 13690), axle 209390 none]

/-- 3.10: the open list is cut in two. -/
theorem test_split_pieces :
    (splitSpeed openList 11111, (piecesOf 15000 13740 openList).map List.length) = (13740, [2, 4]) := by decide +kernel

/-- 3.10: the pieces take the tags 4 095 and 1, since entry (3, 0) is held, and the counter becomes 2. -/
theorem test_split_tags :
    let t := (withEntries base [entry 3 0 2000]).span
    let made := recordsOf (t.holds 3) (fun tag _ => { lorry with tag }) 4095 (piecesOf 15000 13740 openList)
    (made.1.map VehicleRecord.tag, made.2) = ([4095, 1], 2) := by decide +kernel

/-- 4.6: the factor at 20 480 and at 22 221 mm/s. -/
theorem test_factor :
    (factorAt 20480 (lane.nodes.zip band), factorAt 22221 (lane.nodes.zip band)) = (16425, 16300) := by decide +kernel

/-- 4.13: axle 2 of the lorry weighs 1 006 lu. -/
theorem test_axle_load :
    axleLoad lane 3 20480
      { axle 100000 (some 20480) with al := some 640000, bl := some 652000, ar := some 629000, br := some 640000 }
      = (1006, false) := by decide +kernel

/-- 4.13: the vehicle speed and the assessed gross. -/
theorem test_speed_and_assessment :
    (meanHalfUp [20514, 20480, 20480, 20446], assess 10 3200, assess 10 612)
      = (some 20480, (3520, false), (674, false)) := by decide +kernel

/-- 5.9: station 9 objects BUDGET to claim 41, station 6 passes it. -/
theorem test_claim_tests :
    (claimTest site (withEntries base [entry 1 1 2150, entry 1 2 2130, entry 1 3 2300]).span 3520,
     claimTest site (withEntries base [entry 1 1 2150, entry 1 2 2130]).span 3520) = (some .budget, none) := by
  decide +kernel

/-- 7.9: the first lorry is matched to (3, 41), the third to nothing. -/
theorem test_exit_search :
    let e := fun (o : StationNo) (t : Tag) (d : SpanEnd) n m a (k : Bool) =>
      { entry o t 2000 with entryEnd := d, axleCount := n, measuredGross := m, admission := a, departing := k }
    let es := [e 1 2207 .east 3 2900 401000 false, e 2 310 .west 4 3150 405000 true,
               e 4 77 .west 3 2360 410000 false, e 3 41 .west 4 3200 430000 false]
    let v := fun n m st => { lorry with axleCount := n, measuredGross := m, firstStamp := st }
    ((es.find? (exitMatches site .east (v 4 3080 520000))).map SpanEntry.tag,
     ([e 1 2207 .east 3 2900 401000 false, e 6 808 .west 3 2181 500000 false].find?
       (exitMatches site .east (v 3 2190 522800))).map SpanEntry.tag) = (some 41, none) := by decide +kernel

/-- 8.7: byte 0 and byte 1 of the CLAIM, and its 12 bytes. -/
theorem test_claim_frame : (claimFrame.bytes.take 2, claimFrame.bytes.length) = ([0x26, 0xF9], 12) := by decide +kernel

/-- 8.7: the CLAIM is 100 t_b long, and its byte 0, 0010 0110, is driven most significant bit first. -/
theorem test_claim_symbols :
    (((frameSymbols claimFrame.bytes).map fun x => x.cellThirds.getD 0).sum, (frameSymbols claimFrame.bytes).take 9)
      = (300, [.sos, .data0, .data0, .data1, .data0, .data0, .data1, .data1, .data0]) := by decide +kernel

/-- 8.7: station 5's objection byte, and station 3's reading of the surviving byte, 0011 0101. -/
theorem test_objection :
    (Objection.toByte ⟨.count, 5⟩, Objection.toByte ⟨.budget, 9⟩,
     readObjection 100 (some .short) [66, 66, 33, 33, 66, 33, 66, 33],
     readObjection 100 (some .short) [66, 95, 33, 33, 66, 33, 66, 33])
      = (0x35, 0x49, ⟨.count, 5⟩, ⟨.cannotVouch, 15⟩) := by decide +kernel

/-- 11.4, 12.3: the VERDICT of tag 41, ADMITTED, HEAVY, four axles, 74 km/h. -/
theorem test_verdict_payload :
    (verdictPayload { lorry with outcome := some .admitted }).take 7
      = [0x02, 0x92, 0x48, 0, 0x0C, 0x80, 74] := by decide +kernel

/-- 11.5: the replay of the lorry. -/
theorem test_replay_frames :
    let x := fun (l : Nat) (s : Option Nat) => { axle 0 none with load := some l, spacing := s }
    let r := { lorry with axles := [x 612 none, x 1006 (some 3600), x 845 (some 7500), x 737 (some 1300)] }
    (replayReports r).map (fun f => (byteAt f.payload 2).toNat % 16 :: [3, 5, 7].map (fieldAt f.payload · 2))
      = [[0, 612, 1006, 845], [1, 737, 0, 0], [4, 0, 3600, 7500], [5, 1300, 0, 0]] := by decide +kernel

/-- 6.9, at 520 010 and 580 000: a grant adds (4, 77), a DEPART removes (2, 310). -/
theorem test_grant_and_departure :
    let window := fun (bytes : List Byte) (s : State) => withLine s fun l =>
      { l with phase := .window, rx := { RxAssembly.empty with bytes, good := true } }
    let grant := frameBytes 4 .claim (claimPayload { lorry with tag := 77, assessedGross := 2600 } 1200 .east)
    let s := run (.endOfFrame 9 []) (window grant (withEntries base [entry 2 310 2150]))
    let t := run (.endOfFrame 9 []) (window (frameBytes 9 .depart (departPayload 2 310 1)) s)
    (s.span.sum, s.span.count, s.span.entries.getLast?.map SpanEntry.expiry, t.span.sum, t.span.count)
      = (4750, 2, some (1009 + 120000), 2600, 1) := by decide +kernel

/-- 9.8, at 21: HOLD ends the claims as DIVERT_CLOSED, and the sign hold runs for 8 s. -/
theorem test_hold_ends_claims :
    let s := { withClaims base [{ claim with state := .offeredQueued }] with now := 0 }
    let s := withLine s fun l => { l with txq := [claimFrame] }
    let t := run (.holdTaken 21) s
    (t.admission.claims.length, t.line.txq.map TxFrame.kind, t.sign.holdUntil, t.sign.closure,
      t.sign.closed.command, t.sign.divert.command)
      = (0, [.verdict], some 8021, .held, true, true) := by decide +kernel

/-- 9.8, at 45 020 and 47 020: the line is free again, and the reopen timer opens the span. -/
theorem test_reopen :
    let s := { withLine base fun l => { l with phase := .hold } with
      now := 45000, sign := { base.sign with closure := .held } }
    let t := run (.lineRecessiveNotice 20) s
    let u := run (.reopenTimerExpiry 2000) t
    (t.sign.closure, t.sign.reopenTimer, u.sign.closure, u.sign.closed.command, u.sign.divert.command)
      = (.reopening, some 47020, .opened, false, false) := by decide +kernel

/-- 5.9, at t + 12: the objection read gives BACKOFF until t + 512. -/
theorem test_objection_backs_off :
    let s := withLine (withClaims base [{ claim with state := .offeredInFlight }]) fun l =>
      { l with phase := .window, rx := { RxAssembly.empty with bytes := claimFrame.bytes, own := true }
               txq := [claimFrame], inFlight := some ⟨claimFrame, .window, false, false⟩ }
    let t := run (.endOfFrame 1 [66, 33, 66, 66, 33, 66, 66, 33]) (run (.responseSeen 1 100) s)
    t.admission.claims.map (fun c => (c.state, c.objectionSeen, c.lastObjection))
      = [(.backoff 1502, true, some ⟨.budget, 9⟩)] := by decide +kernel

/-- 10.2: STRAP, from station number 15, fails the start; MEM_TABLE fails it with a STATUS queued. -/
theorem test_self_test_fails :
    let s := run (.selfTest 10 ⟨false, false, false, false⟩) (run (.powerOn ⟨15, .entry, .standard⟩) State.reset)
    let t := run (.selfTest 10 ⟨true, false, false, false⟩) starting
    (s.control.mode, s.line.txq.length, t.control.mode, t.line.txq.map TxFrame.kind, t.control.fault)
      = (.failed, 0, .failed, [.status], true) := by decide +kernel

/-! ## Witnesses: concrete states and operands that meet the hypotheses of each statement -/

def pins : Straps := ⟨3, .entry, .standard⟩

def failed : State := { base with control := { base.control with mode := .failed } }

def due (m : Maintenance) : State := { base with handler := { base.handler with due := some m } }

theorem witness_StepRunsTheFrontCommand :
    ({ base with pending := [.lineIdle 5, .sense 0] } : State).pending = .lineIdle 5 :: [.sense 0] := rfl

theorem not_isStart_lineIdle : ¬ IsStart (.lineIdle 5) := by
  rintro (⟨_, h⟩ | ⟨_, h⟩) <;> cases h

/-- A POWER_ON, a RESTART that is due and one that is not, and a command that takes time. -/
theorem witness_TimeAndQueueUnderEveryCommand :
    exec (.powerOn pins) base = .next (run (.powerOn pins) base)
      ∧ exec (.restart pins) (due .restart) = .next (run (.restart pins) (due .restart))
      ∧ (due .restart).handler.due = some .restart
      ∧ exec (.restart pins) base = .next (run (.restart pins) base) ∧ base.handler.due ≠ some .restart
      ∧ exec (.lineIdle 5) base = .next (run (.lineIdle 5) base) ∧ ¬ IsStart (.lineIdle 5) :=
  ⟨rfl, rfl, rfl, rfl, by decide, rfl, not_isStart_lineIdle⟩

theorem witness_OutputsFollowConditions :
    exec (.lineIdle 5) base = .next (run (.lineIdle 5) base) := rfl

theorem witness_OnlyAStartLeavesFailed :
    ¬ IsStart (.lineIdle 5) ∧ exec (.lineIdle 5) failed = .next (run (.lineIdle 5) failed)
      ∧ failed.control.mode = .failed ∧ failed.control.load = none :=
  ⟨not_isStart_lineIdle, rfl, rfl, rfl⟩

theorem witness_StrapsAndCalibrationChangeOnlyWhereStated :
    ¬ IsStart (.lineIdle 5) ∧ exec (.lineIdle 5) base = .next (run (.lineIdle 5) base)
      ∧ (∀ dt r, Instr.lineIdle 5 ≠ .calibrationLoadEnd dt r) ∧ ∀ dt, Instr.lineIdle 5 ≠ .calMemoryTimeout dt :=
  ⟨not_isStart_lineIdle, rfl, by simp, by simp⟩

theorem witness_CountersFallOnlyWhereCleared :
    (∀ p, Instr.lineIdle 5 ≠ .powerOn p) ∧ (∀ dt, Instr.lineIdle 5 ≠ .clearCounters dt)
      ∧ exec (.lineIdle 5) base = .next (run (.lineIdle 5) base) := ⟨by simp, by simp, rfl⟩

theorem witness_ViewGrowsOnlyAtEndOfFrame :
    let s := withEntries base [entry 4 77 2600]
    (∀ dt l, Instr.entryExpiry 95000 4 77 ≠ .endOfFrame dt l)
      ∧ exec (.entryExpiry 95000 4 77) s = .next (run (.entryExpiry 95000 4 77) s)
      ∧ (run (.entryExpiry 95000 4 77) s).span.entries = [] := ⟨by simp, rfl, by decide +kernel⟩

/-- A state with a claim, an entry and a queued command; the command is taken. -/
def busy : State :=
  { withEntries (withClaims base [claim]) [entry 4 77 2600] with pending := [.lineIdle 5] }

theorem witness_EveryStepKeepsCapacities :
    busy.WithinCapacity ∧ step busy = .next (run (.lineIdle 5) { busy with pending := [] }) := by
  refine ⟨?_, rfl⟩
  constructor <;> decide +kernel

theorem witness_EveryStepKeepsTheViewSound :
    busy.ViewSound ∧ step busy = .next (run (.lineIdle 5) { busy with pending := [] }) := by
  refine ⟨?_, rfl⟩
  constructor <;> decide +kernel

theorem witness_EveryStepKeepsClosureSound :
    busy.ClosureSound ∧ step busy = .next (run (.lineIdle 5) { busy with pending := [] }) := by
  refine ⟨⟨?_, ?_⟩, rfl⟩
  · intro h; exact absurd rfl h
  · intro h; cases h

/-! ### Sample Port and Pulse Detector -/

/-- Differences 1 and 64, the bounds. -/
theorem witness_NormalAndGapFramesAreAccepted :
    (∀ q ∈ [65534, 61], sampleFrameSane (sampleBytes q 1000 14) = true
        ∧ sampleFrameGood (sampleBytes q 1000 14) = true)
      ∧ base.port.head = .ready ∧ base.port.lastGood = some ⟨65533, rest⟩
      ∧ base.port.lastIndex = some 196605 ∧ base.port.hold = some rest ∧ base.port.fifo.length < 16
      ∧ ((sampleFrameOf (sampleBytes 65534 1000 14)).sequence - 65533).toNat = 1
      ∧ ((sampleFrameOf (sampleBytes 61 1000 14)).sequence - 65533).toNat = 64 := by decide +kernel

def fifoEntry : FifoEntry := { index := 196605, reading := rest, gaps := 0, hold := rest, mark := .plain }

theorem witness_DiscardedFrames :
    (sampleFrameSane (0xC5 :: List.replicate 13 1) = true ∧ sampleFrameGood (0xC5 :: List.replicate 13 1) = false)
      ∧ partialFrameSane [0xC5] = true ∧ partialFrameSane ((sampleBytes 1 0 0).take 13) = true
      ∧ (sampleFrameSane (sampleBytes 65533 1000 14) = true ∧ sampleFrameGood (sampleBytes 65533 1000 14) = true
        ∧ base.port.lastGood = some (sampleFrameOf (sampleBytes 65533 1000 14)))
      ∧ (let s := { base with port := { base.port with fifo := List.replicate 16 fifoEntry } }
         s.port.fifo.length = 16 ∧ s.port.head = .ready
          ∧ s.port.lastGood ≠ some (sampleFrameOf (sampleBytes 65534 1000 14))) := by decide +kernel

/-- 67 is 65 after 2, the least that counts; 66 is only 64 after it, so that the next round is taken. -/
theorem witness_ResyncIndexIsTheSmallestBeyondTheGap :
    ((196675 : Index).setWidth 16 = (67 : BitVec 16) ∧ ((196675 : Index) - 196610).toNat = 65)
      ∧ ((262210 : Index).setWidth 16 = (66 : BitVec 16) ∧ ((196674 : Index) - 196610).toNat = 64) := by
  decide +kernel

/-- A head that is ABSENT, n good frames in its ready run, the last one (65 533, rest). -/
def absent (n : Nat) : State :=
  { base with port := { base.port with
      head := .absent, headTimer := none, runLength := n, runLast := if n = 0 then none else some ⟨65533, rest⟩ } }

/-- A differing frame of the same sequence number, a difference of 65, and the first frame since the
start; a ready run that begins, goes on, starts afresh, becomes 4 095 and 4 096, and meets a duplicate. -/
theorem witness_ResyncAndReadyRunFramesAreAccepted :
    (∀ b ∈ [sampleBytes 65533 1001 14, sampleBytes 62 1000 14, sampleBytes 65534 1000 14, sampleBytes 7 1000 14,
            sampleBytes 65533 1000 14],
        sampleFrameSane b = true ∧ sampleFrameGood b = true)
      ∧ base.port.head = .ready ∧ base.port.fifo.length < 16 ∧ base.port.lastGood = some ⟨65533, rest⟩
      ∧ (sampleFrameOf (sampleBytes 65533 1001 14) ≠ ⟨65533, rest⟩
          ∧ (sampleFrameOf (sampleBytes 65533 1001 14)).sequence - 65533 = 0)
      ∧ ((sampleFrameOf (sampleBytes 62 1000 14)).sequence - 65533).toNat = 65
      ∧ ({ base.port with lastGood := none } : SamplePort).lastGood = none
      ∧ (∀ n ∈ [0, 4094, 4095], (absent n).port.head = .absent
          ∧ (absent n).port.runLast ≠ some (sampleFrameOf (sampleBytes 65534 1000 14)))
      ∧ (sampleFrameOf (sampleBytes 65534 1000 14)).sequence = (65533 : BitVec 16) + 1
      ∧ (sampleFrameOf (sampleBytes 7 1000 14)).sequence ≠ (65533 : BitVec 16) + 1
      ∧ (absent 1).port.runLast = some (sampleFrameOf (sampleBytes 65533 1000 14)) := by decide +kernel

/-- A head READY in the calibration step of a start, at a time; its timer ends 50 ms later. -/
def calibrating (now : Time) (restarted : Bool) : State :=
  { base with
    now, control := { base.control with mode := .starting, startStep := .calibration, restarted }
    port := { base.port with headTimer := some (now + 50) } }

/-- The moment the timer ends: with nothing pending and with a record pending, just before the head-wait limit
and at it, after a power-on and after a RESTART, and with one claim in each state. -/
theorem witness_HeadLostClearsTheMeasurement :
    base.port.head = .ready ∧ base.port.headTimer = some 1050 ∧ reached (base.now + 50) 1050 = true
      ∧ base.assembler.vehicle = none ∧ base.admission.claims = [] ∧ base.control.sense = none
      ∧ (let s := { base with control := { base.control with sense := some ⟨.calPort, 0, none, 900⟩ } }
        s.control.sense ≠ none)
      ∧ (∀ restarted ∈ [false, true], ∀ early ∈ [0, 1],
        let limit : Nat := if restarted then 5000 else 40000
        let now : Time := BitVec.ofNat 32 (limit - 50 - early)
        let s := calibrating now restarted
        s.port.head = .ready ∧ s.port.headTimer = some (now + 50) ∧ reached (s.now + 50) (now + 50) = true
          ∧ s.control.startStep = .calibration ∧ s.control.restarted = restarted ∧ s.assembler.vehicle = none
          ∧ reached (s.now + 50) (BitVec.ofNat 32 limit) = decide (early = 0))
      ∧ (∀ st ∈ [ClaimState.waiting, .offeredQueued, .offeredInFlight, .backoff 30000],
        let s := withClaims base [{ claim with state := st }]
        s.admission.claims = [{ claim with state := st }] ∧ claim.lateMark = none ∧ s.line.txq.length < 8) := by
  decide +kernel

/-- 10.3: a head lost before the limit resumes the wait, and the limit then sets HEAD; the record raised at the
loss is still pending, so that HEAD_ABSENT is counted as lost (R166). At the limit the wait is over. -/
theorem test_head_lost_resumes_the_wait :
    let s := run (.headLostTimer 50) (calibrating 39949 false)
    let t := run (.headWaitLimit 1) s
    (s.control.startStep, t.control.startStep, t.control.mask.head, t.control.sense.map SenseRecord.code,
      t.control.lostSense, (run (.headLostTimer 50) (calibrating 39950 false)).control.startStep)
      = (.headWait, .calibration, true, some .headLost, 1, .calibration) := by decide +kernel

def tracking : State :=
  let c : ChannelState := { sum := 64000, mode := .tracking }
  { base with
    port := { base.port with fifo := [fifoEntry] }
    detector := { base.detector with al := c, ar := c, bl := c, br := c } }

/-- With the pinned clause's conditions, and the same entry with presence, a rise. -/
theorem witness_RestingSampleIsConsumed :
    tracking.port.fifo = fifoEntry :: [] ∧ fifoEntry.mark = .plain ∧ fifoEntry.gaps = 0
      ∧ tracking.detector.al = { sum := 64000, mode := .tracking }
      ∧ tracking.detector.br = { sum := 64000, mode := .tracking }
      ∧ fifoEntry.reading.al.toInt - (64000 : Int) / 64 < tracking.tOn
      ∧ fifoEntry.reading.br.toInt - (64000 : Int) / 64 < tracking.tOn
      ∧ tracking.assembler.vehicle = none
      ∧ tracking.former = { openA := none, openB := none, waitingB := [], pendingA := [], lastDn := none }
      ∧ 0 < tracking.stuckSamples ∧ tracking.stuckSamples < 2147483648
      ∧ (({ rest with presence := true } : Reading).presence = true ∧ tracking.assembler.presence = false) := by decide +kernel

/-- A sample has been taken before, and AL is in a pulse that may last three more samples. -/
def pulsing : PulseInProgress :=
  { onset := 196600, stamp := 990, temperature := 14, area := 640000, peak := 1400, length := 2044, gap := false }

def gapEntry : FifoEntry :=
  { fifoEntry with gaps := 2, reading := { rest with al := 1200 }, hold := { rest with al := 1200 } }

def gapping (e : FifoEntry) : State :=
  { tracking with
    port := { tracking.port with fifo := [e] }
    detector := { tracking.detector with al := { sum := 64000, mode := .pulse pulsing } }
    assembler := { tracking.assembler with current := some ⟨196602, 995⟩ } }

/-- Two gap samples in a pulse at T_off, the last that fit in it; a seed; a resync with presence. -/
theorem witness_GapsAndMarksAreConsumed :
    (∀ e ∈ [gapEntry, { gapEntry with gaps := 0, mark := .seed },
            { fifoEntry with mark := .resync, reading := { rest with presence := true } }],
        (gapping e).port.fifo = e :: [] ∧ (gapping e).assembler.vehicle = none ∧ 0 < (gapping e).tOn
          ∧ 0 < (gapping e).stuckSamples ∧ (gapping e).stuckSamples < 2147483648
          ∧ (gapping e).former = { openA := none, openB := none, waitingB := [], pendingA := [], lastDn := none })
      ∧ (let s := gapping gapEntry
        gapEntry.mark = .plain ∧ s.assembler.current ≠ none
          ∧ gapEntry.hold.presence = s.assembler.presence ∧ gapEntry.reading.presence = s.assembler.presence
          ∧ s.detector.al = { sum := 64000, mode := .pulse pulsing }
          ∧ gapEntry.hold.al.toInt - (64000 : Int) / 64 = 200 ∧ s.tOff = 200
          ∧ gapEntry.reading.al.toInt - (64000 : Int) / 64 = 200
          ∧ pulsing.length + gapEntry.gaps + 1 = 2047 ∧ gapEntry.hold.ar.toInt = (64000 : Int) / 64
          ∧ gapEntry.reading.ar.toInt - (64000 : Int) / 64 < s.tOn) := by decide +kernel

/-- A sample one below T_off next, AL and BL in a pulse, and n records in the pulse queue. -/
def ending (n : Nat) : State :=
  let x : ChannelState := { sum := 64000, mode := .pulse pulsing }
  let q : QueuedPulse := ⟨⟨.al, 196000, 980, 14, 640000, 1400, false⟩, none⟩
  { gapping { fifoEntry with reading := { rest with al := 1199, bl := 1199 } } with
    detector := { tracking.detector with al := x, bl := x, queue := List.replicate n q } }

/-- The shortest pulse, the shortest that is abandoned, and two pulses that end with room for both records,
for one and for none. -/
theorem witness_PulsesEndInARecordOrStuck :
    (0 < 200 ∧ 200 < 400 ∧ 400 ≤ 400 ∧ (∀ n ∈ ([] : List Nat), 200 ≤ n) ∧ ([] : List Nat).length + 1 < 2048
        ∧ (1199 : Int) - 64000 / 64 < 200)
      ∧ (∀ n ∈ List.replicate 2047 200, 200 ≤ n) ∧ 2047 ≤ (List.replicate 2047 200).length
      ∧ ∀ n ∈ [30, 31, 32],
        let s := ending n
        let e := { fifoEntry with reading := { rest with al := 1199, bl := 1199 } }
        s.port.fifo = e :: [] ∧ e.mark = .plain ∧ e.gaps = 0 ∧ e.reading.presence = s.assembler.presence
          ∧ s.assembler.current ≠ none ∧ s.assembler.vehicle = none
          ∧ s.former = { openA := none, openB := none, waitingB := [], pendingA := [], lastDn := none }
          ∧ 0 < s.stuckSamples ∧ s.stuckSamples < 2147483648
          ∧ s.detector.al = { sum := 64000, mode := .pulse pulsing }
          ∧ s.detector.ar = { sum := 64000, mode := .tracking }
          ∧ s.detector.bl = { sum := 64000, mode := .pulse pulsing }
          ∧ s.detector.br = { sum := 64000, mode := .tracking }
          ∧ e.reading.al.toInt - (64000 : Int) / 64 < s.tOff ∧ e.reading.ar.toInt - (64000 : Int) / 64 < s.tOn
          ∧ s.detector.queue.length = n := by
  refine ⟨by decide, ?_, ?_, by decide +kernel⟩
  · intro n h; rw [List.eq_of_mem_replicate h]
  · rw [List.length_replicate]

/-! ### Axle Former and Vehicle Assembler -/

def pulse (channel : Channel) (onset : Index) : QueuedPulse :=
  ⟨{ channel, onset, stamp := 990, temperature := 14, area := 640000, peak := 1400, gap := false }, none⟩

def withPulse (q : QueuedPulse) : State :=
  { base with detector := { base.detector with queue := [q], settled := some 100050 } }

def openA : RowAxle := ⟨.a, 100000, 990, 14, some 640000, none, false⟩

/-- One record a channel; and AR 48 samples after AL, the window's bound. The settled index stands
before both row-axles' windows end. -/
theorem witness_PulseRecordsFormRowAxles :
    (∀ ch ∈ [Channel.al, .ar, .bl, .br],
      let s := withPulse (pulse ch 100003)
      s.control.load = none ∧ s.assembler.closedQueue.length < 4 ∧ s.detector.queue = pulse ch 100003 :: []
        ∧ s.former = { openA := none, openB := none, waitingB := [], pendingA := [], lastDn := none }
        ∧ ({ s with detector := { s.detector with queue := [] } } : State).horizon = some 100050
        ∧ reached (100050 : Index) ((pulse ch 100003).record.onset + BitVec.ofNat 32 s.window) = false)
      ∧ (let s := { withPulse (pulse .ar 100048) with former :=
            { openA := some openA, openB := none, waitingB := [], pendingA := [], lastDn := none } }
        openA.left.isSome = true ∧ openA.right = none
          ∧ modDiff (pulse .ar 100048).record.onset openA.first = 48 ∧ s.window = 48
          ∧ ({ s with detector := { s.detector with queue := [] } } : State).horizon = some 100050
          ∧ reached (100050 : Index)
              (openA.first + BitVec.ofNat 32 s.dnMax + BitVec.ofNat 32 s.window) = false) := by
  decide +kernel

theorem witness_PairedSpeedLiesWithinThePairingSpeeds :
    (1 ≤ 3000 ∧ 3000 ≤ 6000 ∧ 1 ≤ 1389 ∧ 1389 ≤ 41667)
      ∧ (deltaMin 3000 41667 ≤ 295 ∧ 295 ≤ deltaMax 3000 1389)
      ∧ (deltaMin 3000 41667 ≤ 8846 ∧ 8846 ≤ deltaMax 3000 1389) := by decide +kernel

def openVehicle : OpenVehicle :=
  { axles := openList, opening := 99000, presenceSeen := true, stallMark := false, carriedGap := false
    carriedSplit := false, lastJoin := none }

/-- The oldest entry is 294 samples before, too near; the next 295, the least Δn. -/
theorem witness_PairingTakesTheOldestPartner :
    let b : RowAxle := ⟨.b, 100600, 990, 14, some 1, none, false⟩
    let far : RowAxle := { openA with first := 90000 }
    let a : RowAxle := { openA with first := 100305 }
    let s := { base with
      former := { base.former with pendingA := [far, a] }
      assembler := { base.assembler with vehicle := some openVehicle } }
    s.assembler.vehicle = some openVehicle ∧ openVehicle.axles.length < 24
      ∧ s.former.pendingA = [far] ++ a :: []
      ∧ (∀ p ∈ [far], ¬ ((s.dnMin : Int) ≤ modDiff b.first p.first ∧ modDiff b.first p.first ≤ s.dnMax))
      ∧ (s.dnMin : Int) ≤ modDiff b.first a.first ∧ modDiff b.first a.first ≤ s.dnMax := by decide +kernel

/-- A full table of own tags: the counter steps over all 32. -/
def fullTable : SpanTable :=
  (withEntries base ((List.range 32).map fun n => entry 3 (BitVec.ofNat 12 n) 100)).span

theorem witness_PiecesAndTagsOfAClose :
    fullTable.entries.length ≤ 32 ∧ freeTag (fullTable.holds 3) 33 0 = 32
      ∧ (piecesOf 15000 13740 openList).length = 2 := by decide +kernel

/-- A resting sample next, of index 196 605, with presence as given before it and at it. -/
def resting (presence : Bool) (v : Option OpenVehicle) (pendingA : List RowAxle) : State :=
  { tracking with
    port := { tracking.port with fifo := [{ fifoEntry with reading := { rest with presence } }] }
    former := { tracking.former with pendingA }
    assembler := { tracking.assembler with
      current := some ⟨196602, 995⟩, presence, runStart := some 100000, vehicle := v } }

/-- A pending entry that expires at sample 196 605 and no sooner. -/
def expiring : RowAxle := { openA with first := 196605 - 8846 - 48 }

/-- The hypotheses of the statements below on the sample alone. -/
theorem resting_rests (presence : Bool) (v : Option OpenVehicle) (pendingA : List RowAxle) :
    let s := resting presence v pendingA
    let e := { fifoEntry with reading := { rest with presence } }
    s.port.fifo = e :: [] ∧ e.mark = .plain ∧ e.gaps = 0 ∧ e.reading.presence = s.assembler.presence
      ∧ s.assembler.current ≠ none ∧ s.detector.queue = []
      ∧ (∀ c : ChannelState × Sample, c ∈ [(s.detector.al, e.reading.al), (s.detector.ar, e.reading.ar),
          (s.detector.bl, e.reading.bl), (s.detector.br, e.reading.br)] →
        c.1.mode = .tracking ∧ c.2.toInt - c.1.sum / 64 < s.tOn) := by
  refine ⟨rfl, rfl, rfl, rfl, nofun, rfl, fun c h => ?_⟩
  have at_rest : ((1000 : Sample).toInt - (64000 : Int) / 64) < ((400 : Nat) : Int) := by decide
  simp only [List.mem_cons, List.not_mem_nil, or_false] at h
  rcases h with rfl | rfl | rfl | rfl <;> exact ⟨rfl, at_rest⟩

/-- The entry expires at its bound; a vehicle without axles is 1 024 samples quiet. -/
theorem witness_VehiclesOpenAtAnAxleAndVanishEmpty :
    (let s := resting false none [expiring]
     s.assembler.presence = false ∧ s.assembler.vehicle = none ∧ s.control.load = none
      ∧ s.assembler.closedQueue.length < 4
      ∧ s.former = { openA := none, openB := none, waitingB := [], pendingA := [expiring], lastDn := none }
      ∧ reached (196605 : Index) (expiring.first + BitVec.ofNat 32 s.dnMax + BitVec.ofNat 32 s.window) = true
      ∧ reached (196604 : Index) (expiring.first + BitVec.ofNat 32 s.dnMax + BitVec.ofNat 32 s.window) = false)
      ∧ (let v := { openVehicle with axles := [], opening := 196605 - 1024 }
        let s := resting false (some v) []
        s.assembler.vehicle = some v ∧ v.axles = []
          ∧ s.former = { openA := none, openB := none, waitingB := [], pendingA := [], lastDn := none }
          ∧ reached (196605 : Index) (s.assembler.quietStart v + 1024) = true
          ∧ reached (196604 : Index) (s.assembler.quietStart v + 1024) = false) := by decide +kernel

/-- Quiet for 1 024 samples, stalled for the stuck limit, cut at the 25th axle, and lost with the head. -/
theorem witness_VehiclesCloseIntoRecords :
    openVehicle.axles ≠ []
      ∧ (let v := { openVehicle with opening := 196605 - 1024 }
        let s := resting false (some v) []
        s.assembler.vehicle = some v ∧ s.assembler.presence = false
          ∧ s.former = { openA := none, openB := none, waitingB := [], pendingA := [], lastDn := none }
          ∧ reached (196605 : Index) (s.assembler.quietStart v + 1024) = true)
      ∧ (let v := { openVehicle with opening := 196605 - 245760 }
        let s := { resting true (some v) [] with
          assembler := { (resting true (some v) []).assembler with runStart := some (196605 - 245761) } }
        s.assembler.vehicle = some v ∧ s.assembler.presence = true ∧ s.stuckSamples = 245760
          ∧ later (196605 - 245761 : Index) v.opening = v.opening
          ∧ reached (196605 : Index) (v.opening + BitVec.ofNat 32 s.stuckSamples) = true)
      ∧ (let v := { openVehicle with axles := List.replicate 24 (axle 196000 (some 13800)) }
        let s := resting false (some v) [expiring]
        s.assembler.vehicle = some v ∧ v.axles.length = 24 ∧ v.stallMark = false
          ∧ s.assembler.presence = false ∧ s.control.load = none ∧ s.assembler.closedQueue.length < 4
          ∧ s.former = { openA := none, openB := none, waitingB := [], pendingA := [expiring], lastDn := none }
          ∧ reached (196605 : Index)
              (expiring.first + BitVec.ofNat 32 s.dnMax + BitVec.ofNat 32 s.window) = true)
      ∧ (let s := resting false (some openVehicle) []
        s.port.head = .ready ∧ s.port.headTimer = some 1050 ∧ reached (s.now + 50) 1050 = true
          ∧ s.admission.claims = []) := by decide +kernel

/-! ### Weigh Unit and Exit Matcher -/

/-- A record as assembled, of two axles with twice the areas of 4.13's axle 2. -/
def assembled : VehicleRecord :=
  let x := { axle 100000 (some 20480) with
    al := some 1280000, bl := some 1304000, ar := some 1258000, br := some 1280000 }
  { lorry with
    axles := [x, { x with reference := 100720 }], axleCount := 4, speed := none, band := none, verdict := none
    measuredGross := 0, assessedGross := 0, firstStamp := 990 }

def closedQueue : State := { base with assembler := { base.assembler with closedQueue := [assembled] } }

theorem witness_WeighingHandsTheRecordOn :
    closedQueue.control.load = none ∧ closedQueue.control.startStep = .done
      ∧ closedQueue.admission.waiting = none ∧ closedQueue.control.straps.role = .entry
      ∧ closedQueue.assembler.closedQueue = assembled :: []
      ∧ closedQueue.control.calibration ≠ none ∧ (closedQueue.weigh assembled).speed ≠ none := by
  decide +kernel

/-- An exit station at the east end; the entry of 30 s before is matched, the one of the east end is not. -/
def exitStation : State :=
  let east := { cal with
    lane := { cal.lane with spanEnd := .east }, site := { cal.site with axleLimit := 4000, grossLimit := 9000 } }
  let s := { closedQueue with control := { closedQueue.control with
    calibration := some east, straps := ⟨9, .exit, .standard⟩ } }
  withEntries s
    [{ entry 1 2207 4425 with entryEnd := .east, measuredGross := 4024, admission := 0xFFFF8000 },
     { entry 3 41 4425 with measuredGross := 4024, admission := 990 - 30000 }]

/-- An entry matched at the bound of the least transit; none; no calibration, without and with the light mark;
and a record under the claim threshold. -/
theorem witness_ExitMatchesTheOldestEntry :
    (let s := exitStation
    let w := s.weigh assembled
    s.control.straps.role = .exit ∧ s.line.txq = [] ∧ w.verdict = some .heavy ∧ w.measuredGross = 4024
      ∧ (s.site?.any fun (c : SiteSection) => decide (c.claimThreshold ≤ w.assessedGross)) = true
      ∧ (s.span.entries.map fun e => s.site?.any fun (c : SiteSection) => exitMatches c s.spanEnd w e) = [false, true]
      ∧ modDiff w.firstStamp (990 - 30000) = 300 * 100)
      ∧ (withEntries exitStation []).span.entries = []
      ∧ (let s := { exitStation with control := { exitStation.control with calibration := none } }
        let r := { assembled with axleCount := 2, axles := [axle 100000 (some 20480), axle 100639 (some 20480)] }
        s.control.straps.role = .exit
          ∧ (s.weigh assembled).verdict = some .unweighed ∧ (s.weigh assembled).lightMark = false
          ∧ (s.weigh r).verdict = some .unweighed ∧ (s.weigh r).lightMark = true)
      ∧ (let w := exitStation.weigh { assembled with axles := [axle 100000 (some 20480)] }
        w.verdict ≠ some .unweighed
          ∧ (exitStation.site?.any fun (c : SiteSection) => decide (w.assessedGross < c.claimThreshold)) = true) := by
  decide +kernel

/-- A weighed record under the calibration in force, one without a calibration, and each verdict's test. -/
theorem witness_WeighingComputesLoadsAndVerdict :
    (let w := closedQueue.weigh assembled
     closedQueue.control.calibration = some cal ∧ w.speed = some 20480
      ∧ assembled.axles.length = 2 ∧ w.axles.map Axle.load = [some 2012, some 2012]
      ∧ w.measuredGross = 4024 ∧ w.assessedGross = 4427 ∧ cal.site.axleLimit < 2214 ∧ w.verdict = some .overlimit)
      ∧ (exitStation.weigh assembled).verdict = some .heavy
      ∧ (closedQueue.weigh { assembled with axles := [axle 100000 (some 20480)] }).verdict = some .light
      ∧ (let s := { closedQueue with control := { closedQueue.control with calibration := none } }
        let r := { assembled with axleCount := 2, axles := [axle 100000 (some 20480), axle 100639 (some 20480)] }
        s.control.calibration = none ∧ (s.weigh r).verdict = some .unweighed ∧ (s.weigh r).lightMark = true) := by
  decide +kernel

theorem witness_FactorLiesBetweenItsNodes :
    [(16667, 16700), (22222, 16300)] ≠ [] ∧ [(16667, 16700), (22222, 16300)].Pairwise (fun p q => p.1 < q.1)
      ∧ ∀ p ∈ [(16667, 16700), (22222, 16300)], 16300 ≤ p.2 ∧ p.2 ≤ 16700 := by decide +kernel

/-! ### Admission Unit -/

def accepting (r : VehicleRecord) : State := { base with admission := ⟨some r, []⟩ }

def plain (v : Verdict) (mark : Bool) : VehicleRecord := { lorry with verdict := some v, lightMark := mark }

/-- A car to accept, a full queue of VERDICTs, the youngest of arrival 7, and a claim as the head claim. -/
def discarding (state : ClaimState) : State :=
  { withLine base fun l =>
      { l with txq := (List.range 8).map fun n => { statusFrame with kind := .verdict, arrival := n } } with
    admission := ⟨some (plain .light false), [{ claim with state }]⟩ }

/-- R135, R136, R79: the car's VERDICT is discarded from the full queue, and the head claim, pre-checked at that,
has its CLAIM queued in place of the youngest VERDICT; two drops. A claim in BACKOFF stays. -/
theorem test_discard_pre_checks_the_head :
    let t := run (.acceptRecord 1) (discarding .waiting)
    let u := run (.acceptRecord 1) (discarding (.backoff 30000))
    (t.admission.claims.map Claim.state, t.line.txq.map TxFrame.kind, t.counters.txDrops)
      = ([.offeredQueued], .claim :: List.replicate 7 .verdict, 2)
    ∧ (t.line.txq.map TxFrame.arrival).drop 1 = List.range 7
    ∧ (u.line.txq, u.counters.txDrops) = ((discarding .waiting).line.txq, 1) := by decide +kernel

/-- Each outcome of R72 in its state, with room in the queue and without, and a head claim that rests or is
pre-checked. -/
theorem witness_PlainRecordsAreFinished :
    (∀ v ∈ [(Verdict.light, false), (.overlimit, false), (.unweighed, true), (.unweighed, false)],
      let s := accepting (plain v.1 v.2)
      s.admission.waiting = some (plain v.1 v.2) ∧ s.line.inFlight = none
        ∧ (plain v.1 v.2).verdict = some v.1 ∧ v.1 ≠ .heavy ∧ s.line.txq.length < 8)
      ∧ (let s := { accepting lorry with sign := { base.sign with closure := .reopening, holdUntil := some 1200 } }
        s.admission.waiting = some lorry ∧ lorry.verdict = some .heavy ∧ s.sign.closure ≠ .opened)
      ∧ (let s := withLine (accepting (plain .light false)) fun l => { l with txq := List.replicate 8 statusFrame }
        8 ≤ s.line.txq.length ∧ s.admission.claims.head? = none)
      ∧ (let s := discarding .waiting
        let d : TxFrame := { statusFrame with kind := .verdict, arrival := 7 }
        s.admission.waiting = some (plain .light false) ∧ 8 ≤ s.line.txq.length ∧ s.line.inFlight = none
          ∧ s.admission.claims = claim :: [] ∧ claim.state = .waiting ∧ s.offerable claim = true
          ∧ d ∈ s.line.txq ∧ d.use ≠ .replay ∧ ∀ g ∈ s.line.txq, g ≠ d → g.arrival < d.arrival) := by decide +kernel

/-- A head claim of a vehicle with another tag, with its deadline. -/
def headClaim (deadline : Time) (state : ClaimState) : Claim :=
  { claim with vehicle := { lorry with tag := 40 }, deadline, state }

/-- A claim that the tests pass, and one that they do not; a station that learns; a record closed at its deadline
5 782; four claims held; a former head due 1 ms later, its frame queued among eight and not, and one due at the
same time, which stays the head. -/
theorem witness_HeavyRecordBecomesAClaim :
    (let s := accepting lorry
     s.admission.waiting = some lorry ∧ s.claimInFlight = false ∧ lorry.verdict = some .heavy
      ∧ s.sign.closure = .opened ∧ s.coordinated = true ∧ s.control.calibration = some cal
      ∧ s.admission.claims = [] ∧ s.line.txq.length < 8
      ∧ lorry.firstRowB = some 900 ∧ lorry.speed = some 20480
      ∧ (900 : Time) + BitVec.ofNat 32 (cal.lane.decisionDistance * 1000 / 20480) = 5782
      ∧ reached lorry.closeTime 5782 = false ∧ reached (s.now + 4781) 5782 = false
      ∧ reached (5782 : Time) 5782 = true ∧ reached (5781 : Time) 5782 = false
      ∧ claimTest cal.site s.span lorry.assessedGross = none
      ∧ ({ s with control := { s.control with mode := .learning } } : State).coordinated = false)
      ∧ claimTest cal.site (withEntries base [entry 4 77 8000]).span lorry.assessedGross = some .budget
      ∧ 4 ≤ (List.replicate 4 claim).length
      ∧ (∀ st ∈ [ClaimState.waiting, .backoff 3000, .offeredQueued],
        let s := withLine { base with admission := ⟨some lorry, [headClaim 5783 st]⟩ } fun l =>
          { l with txq := claimFrame :: List.replicate 7 statusFrame }
        s.admission.claims = headClaim 5783 st :: [] ∧ modDiff 5782 (headClaim 5783 st).deadline < 0
          ∧ s.claimInFlight = false ∧ (headClaim 5783 st).state = st
          ∧ (s.line.txq.filter (fun g => g.kind ≠ .claim)).length < 8)
      ∧ (let d := headClaim 5782 .offeredQueued
        [d] = [d] ++ [] ∧ [d] ≠ [] ∧ (∀ x ∈ [d], 0 ≤ modDiff 5782 x.deadline)
          ∧ ∀ x ∈ ([] : List Claim).head?, modDiff 5782 x.deadline < 0) := by decide +kernel

/-- The moment the back-off ends; an offerable claim, and one of a station that learns. -/
theorem witness_BackoffEndsInWaiting :
    let c := { claim with state := .backoff 1500 }
    let s := withClaims base [c]
    s.admission.claims = c :: [] ∧ (∀ d ∈ ([] : List Claim), d.vehicle.tag ≠ c.vehicle.tag)
      ∧ reached (s.now + 500) 1500 = true ∧ s.line.txq.length < 8 ∧ s.offerable c = true
      ∧ ({ s with control := { s.control with mode := .learning } } : State).offerable c = false := by
  decide +kernel

/-- The moment of the deadline, in each state of a claim. -/
theorem witness_DeadlineDivertsTheVehicle :
    ∀ st ∈ [ClaimState.waiting, .offeredQueued, .offeredInFlight, .backoff 30000],
      let c := { claim with state := st }
      let s := withClaims base [c]
      s.admission.claims = [c] ∧ c.lateMark = none ∧ reached (s.now + 21000) c.deadline = true
        ∧ reached (s.now + 20999) c.deadline = false ∧ s.line.txq.length < 8 := by decide +kernel

theorem witness_DeadlineAndDwellFollowTheSpeed :
    (lorry.firstRowB = some 900 ∧ ({ lorry with speed := some 1000 } : VehicleRecord).speed = some 1000
      ∧ 3000000 ≤ 3000000 ∧ 1000 ≤ 1000)
      ∧ 1 ≤ 20480 ∧ 1 ≤ site.dwellRefSpeed ∧ 1 ≤ site.dwellCap ∧ dwellOf site 250000 20480 = 157
      ∧ dwellOf site 8000000 1000 = site.dwellCap ∧ dwellOf site 1 20480 = 1 := by decide +kernel

/-! ### Span Table -/

theorem witness_ClaimTestsGiveTheFirstFailingReason :
    fullTable.entries.length ≤ 32 ∧ claimTest site fullTable 1 = some .tableFull
      ∧ claimTest site (withEntries base ((List.range 4).map fun n => entry 5 (BitVec.ofNat 12 n) 1)).span 1
          = some .count
      ∧ claimTest site (withEntries base [entry 5 1 9000]).span 501 = some .budget
      ∧ claimTest site (withEntries base [entry 5 1 9000]).span 500 = none
      ∧ fullTable.count = fullTable.entries.length ∧ site.maxHeavies ≤ 16
      ∧ (withEntries base [entry 5 1 9000]).control.calibration = some cal
      ∧ (withEntries base [entry 5 1 9000]).claimPasses 500 = true
      ∧ (withEntries base [entry 5 1 9000]).claimPasses 501 = false := by decide +kernel

/-- The moment of expiry, of an own entry and of another's; and the moment learning ends. -/
theorem witness_EntriesAndLearningExpire :
    (∀ origin ∈ [(3 : StationNo), 4],
      let e := entry origin 77 2600
      let s := withEntries base [entry 5 1 100, e, entry 5 2 100]
      s.control.mode ≠ .failed ∧ s.admission.claims = [] ∧ s.line.txq.length < 8
        ∧ s.span.entries = [entry 5 1 100] ++ e :: [entry 5 2 100]
        ∧ (∀ x ∈ [entry 5 1 100], ¬ (x.origin = e.origin ∧ x.tag = e.tag))
        ∧ reached (s.now + 89500) e.expiry = true ∧ reached (s.now + 89499) e.expiry = false)
      ∧ (let s := { base with control := { base.control with mode := .learning, learning := some ⟨0, 300000⟩ } }
        s.control.mode = .learning ∧ s.control.learning = some ⟨0, 300000⟩
          ∧ reached (s.now + 299000) 300000 = true) := by decide +kernel

/-! ### Line Controller -/

/-- Each symbol at both ends of its rounding at 100 us, and the lengths that are whole at both bit times. -/
theorem witness_SymbolsReadInTheirBands :
    (∀ x ∈ [(Symbol.data1, 33), (.data1, 34), (.data0, 66), (.data0, 67), (.normShort, 100), (.normLong, 200),
            (.sos, 300), (.hold, 900)],
        3 * x.2 < x.1.dominantThirds * bitTime .standard + 3 ∧ x.1.dominantThirds * bitTime .standard < 3 * x.2 + 3)
      ∧ (∀ x ∈ [(Symbol.data1, 66), (.data1, 67), (.data0, 133), (.data0, 134), (.sos, 600), (.hold, 1800)],
        3 * x.2 < x.1.dominantThirds * bitTime .longLine + 3 ∧ x.1.dominantThirds * bitTime .longLine < 3 * x.2 + 3)
      ∧ (claimFrame.bytes[11]? = claimFrame.bytes.getLast? ∧ (7 : Nat) < 8)
      ∧ (let l := { base.line with inFlight := some ⟨claimFrame, .data, false, false⟩ }
        l.holdDemand = false ∧ ({ l with holdDemand := true } : LineControl).holdDemand = true)
      ∧ (let l := { base.line with response := some ⟨[0x49], false, false⟩ }
        l.holdDemand = false ∧ l.inFlight = none) := by decide +kernel

def inFrame : State := withLine base fun l => { l with phase := .frame }

def inResponse (o : Opening) (e : Option RxError) : State := withLine base fun l =>
  { l with phase := .response, rx := { RxAssembly.empty with bytes := claimFrame.bytes, opening := some o, firstError := e } }

/-- The lengths next to each bound of R122, at 100 us. -/
theorem witness_ReceiverFollowsTheLine :
    (let s := withLine base fun l => { l with phase := .seeking }
     s.line.phase = .seeking ∧ s.line.inFlight = none ∧ s.line.response = none)
      ∧ (∀ us ∈ [251, 349], 30 * bitTime base.control.straps.rate < 12 * us
          ∧ 12 * us < 42 * bitTime base.control.straps.rate)
      ∧ base.line.phase = .idle ∧ base.line.inFlight = none
      ∧ (let s := withLine base fun l => { l with inFlight := some ⟨claimFrame, .start, false, false⟩ }
        s.line.phase = .idle ∧ s.line.inFlight = some ⟨claimFrame, .start, false, false⟩)
      ∧ (∀ us ∈ [17, 249, 351, 799], bitTime base.control.straps.rate < 6 * us
        ∧ us < 8 * bitTime base.control.straps.rate
        ∧ (12 * us < 30 * bitTime base.control.straps.rate ∨ 42 * bitTime base.control.straps.rate < 12 * us))
      ∧ inFrame.line.phase = .frame ∧ inFrame.line.rx.firstError = none
      ∧ bitTime inFrame.control.straps.rate < 101 ∧ (List.replicate 13 (0 : Byte)).length = 13
      ∧ (∀ us ∈ [101, 199], bitTime inFrame.control.straps.rate < us ∧ us < 2 * bitTime inFrame.control.straps.rate)
      ∧ 3 * bitTime inFrame.control.straps.rate < 2 * 151
      ∧ (∀ o ∈ [Opening.short, .long], ∀ e ∈ [none, some RxError.crc],
          (inResponse o e).line.phase = .response
            ∧ ((inResponse o e).line.rx.opening = some .short ∨ (inResponse o e).line.rx.opening = some .long))
      ∧ (∀ us ∈ [84, 799], 10 * bitTime base.control.straps.rate < 12 * us
          ∧ us < 8 * bitTime base.control.straps.rate) := by decide +kernel

def inWindow (bytes : List Byte) : State := withLine base fun l =>
  { l with phase := .window, rx := { RxAssembly.empty with bytes, good := true } }

/-- The frame in flight of a claim, as it stands when its response window opens. -/
def claiming : State := withLine (withClaims base [{ claim with state := .offeredInFlight }]) fun l =>
  { l with
    phase := .window, rx := { RxAssembly.empty with bytes := claimFrame.bytes, own := true }
    txq := [claimFrame], inFlight := some ⟨claimFrame, .window, false, false⟩ }

theorem witness_ResponsesAreSeen :
    (∀ us ∈ [84, 149], 10 * bitTime base.control.straps.rate < 12 * us ∧ 2 * us < 3 * bitTime base.control.straps.rate)
      ∧ (let s := inWindow (frameBytes 5 .claim (claimPayload lorry 1783 .west))
         s.line.phase = .window ∧ frameKind s.line.rx.bytes = some .claim ∧ s.line.inFlight = none)
      ∧ (let s := inWindow (frameBytes 5 .depart (departPayload 3 41 1))
         frameKind s.line.rx.bytes = some .depart ∧ s.line.inFlight = none ∧ s.line.rx.firstError = none)
      ∧ claiming.line.phase = .window ∧ bitTime claiming.control.straps.rate < 6 * 17
      ∧ claiming.line.inFlight = some ⟨claimFrame, .window, false, false⟩ ∧ claimFrame.kind = .claim
      ∧ claiming.admission.claims = [{ claim with state := .offeredInFlight }]
      ∧ (∀ r ∈ [({ bytes := [0x43], isReply := false, stopped := false } : ResponseDrive),
              { bytes := [0x13, crc8 [0x13]], isReply := true, stopped := false }],
        let s := withLine base fun l => { l with phase := .window, response := some r }
        s.line.inFlight = none ∧ s.line.response = some r ∧ r.stopped = false
          ∧ cellOf r.bytes 0 = some false ∧ cellOf r.bytes 7 = some true) := by decide +kernel

def ready (f : TxFrame) : State := withLine base fun l => { l with txq := [f] }

theorem witness_ReadyStationStartsItsFirstFrame :
    (let s := ready statusFrame
     s.line.phase = .idle ∧ s.line.state = .normal ∧ s.control.mode ≠ .failed ∧ s.line.holdDemand = false
      ∧ s.line.inFlight = none ∧ s.line.response = none ∧ s.line.echoWait = false
      ∧ s.line.txq = statusFrame :: [] ∧ statusFrame.kind ≠ .claim)
      ∧ (let c := { claim with state := .offeredQueued }
         let s := withClaims (ready claimFrame) [c]
         s.line.txq = claimFrame :: [] ∧ claimFrame.kind = .claim ∧ s.admission.claims = [c] ∧ s.offerable c = true
          ∧ (withEntries s [entry 4 77 8000]).offerable c = false) := by decide +kernel

def starts (f : TxFrame) (run : Nat) : State := withLine base fun l =>
  { l with txq := [f], inFlight := some ⟨f, .start, false, false⟩, noEchoRun := run }

theorem witness_EchoFaultsIsolateTheLine :
    (∀ n ∈ [0, 1, 2],
      (starts statusFrame n).line.inFlight = some ⟨statusFrame, .start, false, false⟩
        ∧ statusFrame.use = .ordinary ∧ statusFrame.kind ≠ .claim ∧ (starts statusFrame n).line.state = .normal
        ∧ (starts statusFrame n).line.noEchoRun = n ∧ (starts statusFrame n).control.sense = none
        ∧ (starts statusFrame n).admission.claims = [])
      ∧ (∀ mark ∈ [none, some VehicleOutcome.divertLate],
        let c := { claim with state := .offeredInFlight, lateMark := mark }
        let s := withClaims (starts claimFrame 2) [c]
        s.line.inFlight = some ⟨claimFrame, .start, false, false⟩ ∧ claimFrame.kind = .claim
          ∧ claimFrame.use = .ordinary ∧ s.line.state = .normal ∧ s.line.noEchoRun = 2 ∧ s.control.sense = none
          ∧ s.admission.claims = [c] ∧ c.lateMark = mark ∧ (s.line.txq.filter (fun g => g.kind ≠ .claim)).length < 8)
      ∧ (let s := withLine base fun l => { l with state := .isolated, isolationTimer := some 6000 }
         s.line.state = .isolated ∧ s.line.isolationTimer = some 6000 ∧ reached (s.now + 5000) 6000 = true
          ∧ s.control.mode ≠ .failed)
      ∧ (let x : InFlight := ⟨{ statusFrame with use := .isolation }, .window, false, false⟩
        let s := withLine base fun l =>
          { l with state := .isolated, isolationFrame := some x.frame, phase := .window, inFlight := some x
                   rx := { RxAssembly.empty with bytes := statusFrame.bytes, own := true } }
        s.line.inFlight = some x ∧ x.stopped = false ∧ x.frame.kind = .status ∧ x.frame.use = .isolation
          ∧ s.line.phase = .window ∧ s.line.rx.own = true ∧ s.line.response = none ∧ s.line.holdDemand = false
          ∧ s.control.mode = .active ∧ s.admission.claims = []) := by decide +kernel

def inCells (f : TxFrame) (phase : TxPhase) : State := withLine base fun l =>
  { l with phase := .frame, txq := [f], inFlight := some ⟨f, phase, false, false⟩ }

/-- A station whose head is ABSENT is not coordinated. -/
def uncoordinated (s : State) : State := { s with port := { s.port with head := .absent } }

/-- Cells 0 and 7 of STATUS's byte 0, 0x86, its cell 8 and its last cell; the CLAIM's byte 0, 0x26; echo faults of
a CLAIM and of the isolation frame; and the claim of a CLAIM in each of the conditions. -/
theorem witness_AttemptsEndByLossErrorOrFault :
    (∀ phase ∈ [TxPhase.byte0, .data],
        (inCells statusFrame phase).line.inFlight = some ⟨statusFrame, phase, false, false⟩)
      ∧ statusFrame.use = .ordinary ∧ statusFrame.kind ≠ .claim
      ∧ cellOf statusFrame.bytes 0 = some true ∧ cellOf statusFrame.bytes 7 = some false
      ∧ 8 < 8 * statusFrame.bytes.length ∧ 103 < 8 * statusFrame.bytes.length ∧ claimFrame.kind = .claim
      ∧ cellOf claimFrame.bytes 2 = some true ∧ cellOf claimFrame.bytes 0 = some false
      ∧ (∀ n ∈ [0, 1], (starts claimFrame n).line.inFlight = some ⟨claimFrame, .start, false, false⟩
          ∧ (starts claimFrame n).line.noEchoRun = n)
      ∧ (let f := { statusFrame with use := .isolation }
        let s := withLine (starts f 3) fun l => { l with state := .isolated, isolationFrame := some f }
        s.line.inFlight = some ⟨f, .start, false, false⟩ ∧ f.use = .isolation ∧ s.line.state ≠ .normal)
      ∧ (∀ mark ∈ [none, some VehicleOutcome.divertLate],
        let c := { claim with state := .offeredInFlight, lateMark := mark }
        let d := { claim with vehicle := { lorry with tag := 42 }, state := .backoff 30000 }
        let s := withClaims (inCells claimFrame .byte0) [c, d]
        let u := uncoordinated (withClaims (inCells claimFrame .byte0) [c])
        s.admission.claims = c :: [d] ∧ c.state = .offeredInFlight ∧ c.lateMark = mark ∧ s.coordinated = true
          ∧ d.vehicle.tag ≠ c.vehicle.tag ∧ d.state ≠ .waiting
          ∧ u.admission.claims = c :: [] ∧ u.coordinated = false ∧ u.line.txq.length < 8) := by decide +kernel

def peerClaim (assessed dwell : Nat) : List Byte :=
  frameBytes 5 .claim (claimPayload { lorry with assessedGross := assessed } dwell .west)

/-- Each class of damage, and each judgement, with the dwell at its bounds; a CLAIM at a station that is not
coordinated; a good DEPART, a COMMAND for another station, a damaged one for this, and no whole byte; an own frame. -/
theorem witness_FramesAreJudgedAtEndOfData :
    inFrame.line.phase = .frame ∧ inFrame.line.rx.own = false ∧ inFrame.line.rx.firstError = none
      ∧ inFrame.coordinated = true ∧ inFrame.control.calibration = some cal ∧ inFrame.line.holdDemand = false
      ∧ inFrame.line.response = none
      ∧ (∀ d ∈ [1, 3000], (peerClaim 3520 d).length ≤ 13 ∧ frameKind (peerClaim 3520 d) = some .claim
          ∧ frameError (peerClaim 3520 d) = none ∧ frameSource (peerClaim 3520 d) ≠ 3
          ∧ (claimPayloadOf (framePayload (peerClaim 3520 d))).dwell = d)
      ∧ frameError ((peerClaim 3520 1).dropLast ++ [0]) = some .crc
      ∧ frameError (peerClaim 3520 1).dropLast = some .format
      ∧ frameKind (peerClaim 3520 1).dropLast = some .claim
      ∧ (∀ d ∈ [0, 3001], frameError (peerClaim 3520 d) = none
          ∧ (claimPayloadOf (framePayload (peerClaim 3520 d))).dwell = d)
      ∧ (withEntries inFrame [entry 5 41 3520]).span.holds 5 41 = true
      ∧ (∀ e ∈ [none, some RxError.framing],
        let bytes := (peerClaim 3520 1).take 1
        let s := withLine inFrame fun l => { l with phase := .discard, rx := { l.rx with bytes, firstError := e } }
        s.line.phase = .discard ∧ s.line.rx.bytes = bytes ∧ s.line.rx.own = false
          ∧ frameKind bytes = some .claim ∧ s.line.rx.firstError.getD .framing = .framing)
      ∧ (uncoordinated inFrame).coordinated = false
      ∧ (let b := frameBytes 9 .depart (departPayload 4 77 1)
        frameKind b ≠ some .claim ∧ frameKind b ≠ some .command ∧ b ≠ [] ∧ b.length ≤ 13 ∧ frameError b = none)
      ∧ (let b := commandBytes 4 0
        frameKind b = some .command ∧ frameTarget b = 3 ∧ frameError b = none ∧ frameTarget b ≠ 4
          ∧ frameError (b.dropLast ++ [0]) = some .crc)
      ∧ frameKind [] ≠ some .claim ∧ frameKind [] ≠ some .command
      ∧ (∀ phase ∈ [RxPhase.frame, .discard],
        let x : InFlight := ⟨claimFrame, .data, false, false⟩
        let s := withLine base fun l =>
          { l with phase, rx := { RxAssembly.empty with own := true }, txq := [claimFrame], inFlight := some x }
        s.line.rx.own = true ∧ s.line.inFlight = some x ∧ x.stopped = false ∧ s.line.holdDemand = false
          ∧ s.line.phase = phase) := by decide +kernel

/-- A CLAIM that is new, held, and too many; a DEPART known and unknown; a CLAIM that this station objected to,
and one that others answered in due form, one cell short, and out of shape from the start. -/
theorem witness_GrantsAndDepartsReachTheView :
    let s := inWindow (peerClaim 3520 1783)
    let d := inWindow (frameBytes 9 .depart (departPayload 4 77 1))
    (s.line.phase = .window ∧ s.line.rx.own = false ∧ s.line.rx.good = true ∧ s.line.response = none
        ∧ s.line.inFlight = none ∧ d.line.inFlight = none ∧ d.admission.claims = [] ∧ s.control.mode ≠ .failed ∧ frameSource s.line.rx.bytes ≠ s.control.straps.number
        ∧ frameKind s.line.rx.bytes = some .claim)
      ∧ (s.span.holds 5 41 = false ∧ s.span.entries.length < 32)
      ∧ (withEntries s [entry 5 41 3520]).span.holds 5 41 = true
      ∧ (fullTable.holds 5 41 = false ∧ fullTable.entries.length = 32)
      ∧ (frameKind d.line.rx.bytes = some .depart ∧ departKey (framePayload d.line.rx.bytes) = (4, 77)
          ∧ d.span.holds 4 77 = false)
      ∧ ((entry 4 77 2600).origin, (entry 4 77 2600).tag) = (4, 77)
      ∧ (withEntries d [entry 4 77 2600]).span.entries = [] ++ entry 4 77 2600 :: []
      ∧ (let u := withLine s fun l => { l with response := some ⟨[0x43], false, false⟩ }
        u.line.phase = .window ∧ u.line.response ≠ none ∧ u.line.holdDemand = false)
      ∧ (∀ o ∈ [Opening.short, .misshapen],
        let u := withLine s fun l => { l with phase := .response, rx := { l.rx with opening := some o } }
        u.line.phase = .response ∧ u.line.rx.opening = some o ∧ u.line.rx.good = true ∧ u.line.inFlight = none)
      ∧ responseBroken 100 .short (List.replicate 8 33) = false
      ∧ responseBroken 100 .short (List.replicate 7 33) = true := by decide +kernel

/-- Granted in time and late-marked, and no longer coordinated; objected in due form, broken, and misshapen from
the start. -/
theorem witness_OwnClaimEndsGrantedOrObjected :
    (claiming.line.inFlight = some ⟨claimFrame, .window, false, false⟩ ∧ claimFrame.kind = .claim
        ∧ claimFrame.use = .ordinary ∧ claiming.line.rx.own = true ∧ claiming.line.holdDemand = false
        ∧ claiming.line.txq = [claimFrame] ∧ claiming.line.response = none ∧ claiming.coordinated = true
        ∧ claiming.line.phase = .window ∧ claiming.span.holds 3 41 = false ∧ claiming.span.entries.length < 32)
      ∧ (∀ mark ∈ [none, some VehicleOutcome.divertLate],
        let c := { claim with state := .offeredInFlight, lateMark := mark }
        (withClaims claiming [c]).admission.claims = [c] ∧ c.state = .offeredInFlight ∧ c.lateMark = mark)
      ∧ claiming.control.mode ≠ .failed ∧ (uncoordinated claiming).coordinated = false
      ∧ (∀ o ∈ [Opening.short, .misshapen],
        let s := withLine claiming fun l => { l with phase := .response, rx := { l.rx with opening := some o } }
        s.line.phase = .response ∧ s.line.rx.opening = some o ∧ s.line.rx.firstError = none)
      ∧ responseBroken 100 .short [66, 33, 66, 66, 33, 66, 66, 33] = false
      ∧ responseBroken 100 .short [66, 33, 66, 66, 33, 66, 66] = true
      ∧ responseCells 100 [66, 33, 66, 66, 33, 66, 66, 33]
          = (List.range 8).map (cellOf [Objection.toByte ⟨.budget, 9⟩]) := by decide +kernel

/-- An own frame in flight at the end of its window, with another queued on each side of it. -/
def completing (f : TxFrame) (replay : Option (List ReplayFrame)) : State :=
  { withLine base fun l =>
      { l with
        phase := .window, rx := { RxAssembly.empty with bytes := f.bytes, own := true }
        txq := [{ statusFrame with arrival := 2 }, f, { statusFrame with arrival := 3 }]
        inFlight := some ⟨f, .window, false, false⟩ } with
    handler := { base.handler with replay } }

/-- A STATUS; a DEPART of an entry held and of none; a replay that goes on and one that ends. -/
theorem witness_OwnFramesComplete :
    let d : TxFrame := { statusFrame with kind := .depart, bytes := frameBytes 3 .depart (departPayload 4 77 1) }
    let g : ReplayFrame := ⟨.report, axlesPayload 41 0 1 2 3⟩
    (∀ q ∈ [(statusFrame, none), (d, none), ({ statusFrame with use := .replay }, some [g]),
            ({ statusFrame with use := .replay }, some [])],
        let s := completing q.1 q.2
        s.line.inFlight = some ⟨q.1, .window, false, false⟩ ∧ s.line.phase = .window ∧ s.line.rx.own = true
          ∧ s.line.response = none ∧ s.line.holdDemand = false ∧ s.admission.claims = []
          ∧ s.line.txq = [{ statusFrame with arrival := 2 }] ++ q.1 :: [{ statusFrame with arrival := 3 }]
          ∧ (∀ x ∈ [{ statusFrame with arrival := 2 }] ++ [{ statusFrame with arrival := 3 }], x.arrival ≠ q.1.arrival)
          ∧ q.1.kind ≠ .claim ∧ q.1.use ≠ .isolation ∧ s.handler.replay = q.2 ∧ s.control.mode ≠ .failed)
      ∧ d.kind = .depart ∧ d.use ≠ .replay ∧ departKey (framePayload d.bytes) = (4, 77)
      ∧ (completing d none).span.holds 4 77 = false
      ∧ (withEntries (completing d none) [entry 4 77 2600]).span.entries = [] ++ entry 4 77 2600 :: [] := by
  decide +kernel

def prepared (bytes : List Byte) (p : Option Prepared) (r : Option ResponseDrive) : State :=
  { withLine (inWindow bytes) fun l => { l with response := r } with
    handler := { base.handler with prepared := p } }

/-- A STATUS page 0 of LOADED station 5 with a site checksum. -/
def peerStatus (low : Byte) : List Byte := frameBytes 5 .status [0, 0, 0, 0x80, 0, 0, 0x12, low, 0, 0]

/-- A reply completed, stopped, and not given for want of a line; another checksum and the same; this
station's own number, at a NORMAL line and a LISTEN_ONLY one. -/
theorem witness_FramesAreHandedOnAtTheirEnd :
    (∀ q ∈ [((some ⟨some (Maintenance.statusPage 0), false⟩ : Option Prepared), some (ResponseDrive.mk [0x13, 0] true false)),
            (some ⟨some (.statusPage 0), false⟩, some ⟨[0x13, 0], true, true⟩),
            (some ⟨some .restart, true⟩, none)],
        let s := prepared (commandBytes 1 0) q.1 q.2
        s.line.rx.own = false ∧ s.line.rx.good = true ∧ s.line.inFlight = none ∧ s.line.holdDemand = false
          ∧ s.control.sense = none ∧ s.line.phase = .window ∧ frameKind s.line.rx.bytes = some .command
          ∧ frameSource s.line.rx.bytes = 15 ∧ frameTarget s.line.rx.bytes = 3
          ∧ s.handler.prepared = q.1 ∧ s.line.response = q.2)
      ∧ responseBroken 100 .long (List.replicate 16 33) = false
      ∧ (∀ low ∈ [(0x35 : Byte), 0x34],
        let s := inWindow (peerStatus low)
        let payload := framePayload s.line.rx.bytes
        frameKind s.line.rx.bytes = some .status ∧ (byteAt payload 0).toNat / 32 = 0
          ∧ s.control.calibration = some cal ∧ frameSource s.line.rx.bytes ≠ 3
          ∧ frameSource s.line.rx.bytes ∉ s.control.mismatch ∧ (byteAt payload 3).getLsbD 7 = true
          ∧ fieldAt payload 6 2 = 0x1200 + low.toNat ∧ s.line.txq.length < 8 ∧ s.line.response = none)
      ∧ (∀ state ∈ [LineState.normal, .listenOnly],
        let s := withLine (inWindow (frameBytes 3 .sense (List.replicate 9 0))) fun l => { l with state }
        s.line.phase = .window ∧ s.line.response = none ∧ frameKind s.line.rx.bytes = some .sense
          ∧ frameSource s.line.rx.bytes = 3 ∧ (3 : StationNo) ≠ 15 ∧ s.admission.claims = []) := by decide +kernel

def held (closeIn : Bool) : State :=
  { withLine base fun l => { l with phase := .hold } with
    sign := { base.sign with closure := .held, closeIn, rawCloseIn := closeIn } }

/-- Three claims and, with five other frames, the CLAIM frame of the first, which waits or is in flight. -/
def threeClaims (flying : Bool) : State :=
  let c := { claim with state := if flying then .offeredInFlight else .offeredQueued }
  withLine (withClaims base [c, headClaim 23000 .waiting, { headClaim 24000 (.backoff 1200) with
    vehicle := { lorry with tag := 39 } }]) fun l =>
    { l with
      txq := claimFrame :: List.replicate 4 statusFrame
      inFlight := if flying then some ⟨claimFrame, .data, false, false⟩ else none }

/-- A stopped frame; a HOLD with nothing in flight, with a frame in flight, with a claim, and with three claims,
whose VERDICTs fill the queue; a release. -/
theorem witness_HoldClosesAndReleaseReopens :
    (let x : InFlight := ⟨statusFrame, .byte0, false, true⟩
     let s := withLine base fun l => { l with inFlight := some x, holdDemand := true }
     s.line.inFlight = some x ∧ x.stopped = true ∧ s.line.holdDemand = true)
      ∧ (base.line.phase ≠ .hold ∧ base.line.inFlight = none ∧ base.admission.claims = [])
      ∧ ((inCells statusFrame .data).line.phase ≠ .hold ∧ statusFrame.kind ≠ .claim ∧ statusFrame.use ≠ .isolation)
      ∧ (claiming.line.phase ≠ .hold ∧ claiming.ClosureSound)
      ∧ (∀ b ∈ [true, false],
        let s := threeClaims b
        s.line.phase ≠ .hold ∧ s.sign.closure ≠ .held ∧ s.admission.claims ≠ []
          ∧ (∀ c ∈ s.admission.claims, c.lateMark = none) ∧ (s.admission.claims.map fun c => c.vehicle.tag).Nodup
          ∧ s.line.txq.length + s.admission.claims.length = 8 ∧ claimFrame.use ≠ .isolation
          ∧ s.admission.claims.head?.map Claim.state = some (if b then .offeredInFlight else .offeredQueued)
          ∧ s.line.inFlight.isSome = b)
      ∧ ∀ b ∈ [true, false], (held b).line.phase = .hold ∧ (held b).sign.closure = .held
        ∧ (held b).sign.closeIn = b :=
  ⟨by decide +kernel, by decide +kernel, by decide +kernel,
    ⟨by decide +kernel, fun h => absurd rfl h, fun h => absurd h (by decide)⟩, by decide +kernel, by decide +kernel⟩

/-- A queue of VERDICTs that came one after another, with the youngest in flight. -/
def verdictQueue : State := withLine base fun l =>
  let v := fun n => { statusFrame with kind := .verdict, arrival := n }
  { l with txq := (List.range 8).map v, inFlight := some ⟨v 7, .data, false, false⟩ }

/-- A queue in order, before a step; a full queue in which none gives way, and one in which the youngest is in
flight and the next gives way. -/
theorem witness_TransmitQueueIsOrderedByKind :
    (let s := { withLine base fun l => { l with txq := [claimFrame, statusFrame] } with pending := [.lineIdle 5] }
     s.line.txq.Pairwise (fun a b => a.kind.code ≤ b.kind.code)
      ∧ step s = .next (run (.lineIdle 5) { s with pending := [] }))
      ∧ (let s := withLine base fun l => { l with txq := List.replicate 8 statusFrame }
        8 ≤ s.line.txq.length ∧ ∀ g ∈ s.line.txq, ¬ (g.kind = .verdict ∨ g.kind = .report))
      ∧ (let s := verdictQueue
        let d : TxFrame := { statusFrame with kind := .verdict, arrival := 6 }
        8 ≤ s.line.txq.length ∧ d ∈ s.line.txq ∧ d.kind = .verdict
          ∧ s.line.inFlight.map (·.frame.arrival) = some 7
          ∧ (∀ g ∈ s.line.txq, g.arrival ≠ 7 → g ≠ d → g.arrival < d.arrival)
          ∧ FrameKind.claim ≠ .verdict ∧ FrameKind.claim ≠ .report) :=
  ⟨⟨by decide +kernel, rfl⟩, by decide +kernel, by decide +kernel⟩

theorem witness_FramesReadBackAsBuilt :
    ((3 : StationNo) ≠ 15 ∧ FrameKind.claim ≠ .command
      ∧ (claimPayload lorry 1783 .west).length = FrameKind.claim.payloadLength
      ∧ reservedOk .claim (claimPayload lorry 1783 .west) = true)
      ∧ lorry.axleCount ≤ 15 ∧ lorry.assessedGross ≤ 65535 ∧ lorry.measuredGross ≤ 65535 ∧ 65535 ≤ 65535 := by
  decide +kernel

/-! ### Closure and Sign Controller -/

theorem witness_CloseInActsAfterItsDebounce :
    base.sign.rawCloseIn ≠ true
      ∧ (let s := { base with sign := { base.sign with rawCloseIn := true, rawSince := 1000 } }
        s.sign.rawCloseIn = true ∧ s.sign.closeIn = false ∧ reached (s.now + 20) (s.sign.rawSince + 20) = true
          ∧ reached (s.now + 19) (s.sign.rawSince + 20) = false ∧ s.sign.closure ≠ .held
          ∧ s.admission.claims = [] ∧ s.control.mode ≠ .failed ∧ failed.control.mode = .failed)
      ∧ (∀ phase ∈ [RxPhase.hold, .seeking],
        let s := { withLine base fun l => { l with phase } with
          sign := { base.sign with closure := .held, closeIn := true, rawCloseIn := false, rawSince := 1000 } }
        s.sign.rawCloseIn = false ∧ s.sign.closeIn = true ∧ s.sign.closure = .held ∧ s.line.phase = phase
          ∧ reached (s.now + 20) (s.sign.rawSince + 20) = true) := by decide +kernel

theorem witness_SignTimersExpire :
    (let s := { base with sign := { base.sign with closure := .reopening, reopenTimer := some 3000 } }
     s.sign.closure = .reopening ∧ s.sign.reopenTimer = some 3000 ∧ reached (s.now + 2000) 3000 = true)
      ∧ (let s := { held false with sign := { (held false).sign with longHoldTimer := some 1000 } }
        s.sign.longHoldTimer = some 1000 ∧ reached (s.now + 60000) ((1000 : Time) + 60000) = true)
      ∧ (let s := { base with sign := { base.sign with holdUntil := some 9000 } }
        s.sign.holdUntil = some 9000 ∧ reached (s.now + 8000) 9000 = true) := by decide +kernel

def dark (lamp : Lamp) (kind : Disagreement) : State :=
  let l : LampState :=
    { command := kind == .dark, current := kind == .lit, mark := false, timer := some ⟨kind, 1000⟩ }
  let closure := if kind = .dark then Closure.held else .opened
  { base with sign := match lamp with
      | .divert => { base.sign with closure, divert := l }
      | .closed => { base.sign with closure, closed := l } }

/-- DIVERT is off, so that current is a disagreement and none is agreement; and both lamps, dark and
lit, 500 ms after the timer's start. -/
theorem witness_LampDisagreementsAreTimedAndReported :
    base.lampCheck = true ∧ base.divertCommand = false ∧
    ∀ lamp ∈ [Lamp.divert, .closed], ∀ kind ∈ [Disagreement.dark, .lit],
      let s := dark lamp kind
      s.lampCheck = true ∧ (s.sign.lamp lamp).timer = some ⟨kind, 1000⟩ ∧ (s.sign.lamp lamp).mark = false
        ∧ reached (s.now + 500) ((1000 : Time) + 500) = true
        ∧ disagreement (match lamp with | .divert => s.divertCommand | .closed => s.closedCommand)
            (s.sign.lamp lamp).current = some kind
        ∧ s.control.sense = none ∧ s.line.txq.length < 8 := by decide +kernel

/-! ### Station Control -/

theorem witness_StartsBeginFromPowerOnValues : (due .restart).handler.due = some .restart := rfl

theorem witness_SelfTestAndHeadWaitGoOn :
    (starting.control.mode = .starting ∧ starting.control.startStep = .selfTest
        ∧ starting.admission.claims = [] ∧ starting.control.sense = none ∧ starting.line.inFlight = none
        ∧ starting.control.mask.strap = false)
      ∧ (statusFrame.kind ≠ .claim ∧ statusFrame.use ≠ .isolation)
      ∧ (run (.powerOn ⟨15, .entry, .standard⟩) State.reset).control.mask.strap = true
      ∧ (let s := run (.selfTest 10 ⟨false, false, false, false⟩) starting
        s.control.startStep = .headWait ∧ s.port.head = .absent ∧ s.control.restarted = false
          ∧ reached (s.now + 39990) 40000 = true ∧ reached (s.now + 39989) 40000 = false
          ∧ s.control.sense = none) := by decide +kernel

theorem witness_LoadsBeginOnAnEmptyLane :
    (base.control.load = none ∧ base.assembler.vehicle = none
        ∧ base.former = { openA := none, openB := none, waitingB := [], pendingA := [], lastDn := none })
      ∧ (let s := { starting with control := { starting.control with startStep := .calibration } }
        s.control.mode ≠ .failed ∧ s.control.startStep = .calibration ∧ s.control.load = none)
      ∧ (let s := { base with control := { base.control with reloadAsked := true } }
        s.control.mode ≠ .failed ∧ s.control.startStep ≠ .calibration ∧ s.control.reloadAsked = true
          ∧ s.admission.claims = [] ∧ s.admission.waiting = none)
      ∧ (let s := { base with control := { base.control with calibration := none, lastLoadEnd := some 1000 } }
        s.control.mode = .active ∧ s.control.calibration = none ∧ s.control.lastLoadEnd = some 1000
          ∧ reached (s.now + 30000) ((1000 : Time) + 30000) = true) := by decide +kernel

def loading (kind : LoadKind) : State :=
  { base with control := { base.control with load := some ⟨kind, 1000⟩ } }

/-- The record of 12.4 that carries this site section and this lane section. -/
def validRecord : List Byte :=
  let site := be16 1150 ++ be16 4400 ++ be16 1800 ++ [10, 25] ++ be16 11000 ++ be16 1500 ++ [4, 25]
    ++ be16 20000 ++ be16 3000 ++ [2, 8, 20] ++ be16 300 ++ [0]
  let lane := [1, 2] ++ be16 400 ++ be16 200 ++ be16 3000 ++ [48] ++ be16 1389 ++ be16 41667 ++ be16 15000
    ++ be16 60 ++ be16 11111 ++ be16 3200 ++ be32 26000000 ++ be32 25950000 ++ be32 26400000
    ++ be32 26220000 ++ ([2000, 5000, 8000, 12000, 16667, 22222, 30000, 40000].map be16).flatten
    ++ ([band, band, band, band].flatten.map be16).flatten ++ [0, 10, 25] ++ be32 100000 ++ be32 250000
  let body := be16 0x4B32 ++ be16 158 ++ site ++ lane
  body ++ be16 (crc16 body).toNat

set_option maxRecDepth 20000 in
/-- 12.4: the fields of a record read back, and it passes the 24 checks of R158. -/
theorem test_calibration_record :
    validRecord.length = 158 ∧ calibrationFailure validRecord = none
      ∧ (calibrationOf validRecord).site = site ∧ (calibrationOf validRecord).lane = lane := by decide +kernel

set_option maxRecDepth 20000 in
/-- A valid record, and a record of zeros, which fails check 1. -/
theorem witness_LoadsEndLoadedOrAbsent :
    (∀ kind ∈ [LoadKind.start, .retry, .reload], (loading kind).control.load = some ⟨kind, 1000⟩
        ∧ (loading kind).admission.claims = [] ∧ (loading kind).control.sense = none
        ∧ (loading kind).line.txq.length < 8 ∧ (loading kind).control.mode = .active)
      ∧ validRecord.length = 158 ∧ calibrationFailure validRecord = none
      ∧ (List.replicate 158 (0 : Byte)).length = 158
      ∧ calibrationFailure (List.replicate 158 0) = some 1
      ∧ reached ((loading .retry).now + 50) (1000 + 50) = true
      ∧ (loading .retry).control.lastLoadResult = none
      ∧ (let s := { loading .retry with control := { (loading .retry).control with
          mode := .learning, learning := some ⟨0, 600000⟩, lastLoadResult := some (.calPort, 0) } }
        s.control.load = some ⟨.retry, 1000⟩ ∧ s.control.mode = .learning
          ∧ s.control.lastLoadResult = some (.calPort, 0)) := by decide +kernel

/-! ### Command Handler -/

def commanded (mode : Mode) (sense : Option SenseRecord) (txq : List TxFrame) : State :=
  { withLine inFrame fun l => { l with txq } with control := { inFrame.control with mode, sense } }

/-- Each request, two that are refused, each mode, a record pending, a queue full and one that gives way;
a lane in use; a ring with the tag asked for and one without. -/
theorem witness_CommandsDrawTheirReplies :
    (∀ mode ∈ [Mode.starting, .learning, .active, .failed],
      ∀ sense ∈ [none, some (SenseRecord.mk .headLost 0 none 900)],
        let s := commanded mode sense (List.replicate 8 statusFrame)
        s.line.phase = .frame ∧ s.line.rx.own = false ∧ s.line.rx.firstError = none ∧ s.line.state = .normal
          ∧ s.line.holdDemand = false ∧ s.line.response = none ∧ s.control.mode = mode
          ∧ s.control.sense = sense ∧ 8 ≤ s.line.txq.length ∧ s.line.inFlight = none)
      ∧ (∀ q ∈ [(commandBytes 1 4, some (Request.statusPage 4)), (commandBytes 2 0, some .sense),
                (commandBytes 3 0, some .reload), (commandBytes 4 0, some .restart),
                (commandBytes 5 41, some (.readVehicle 41)), (commandBytes 6 0, some .clearCounters),
                (commandBytes 1 5, none), (commandBytes 4 1, none), (commandBytes 7 0, none)],
          q.1.length ≤ 13 ∧ frameKind q.1 = some .command ∧ frameError q.1 = none ∧ frameTarget q.1 = 3
            ∧ requestOf (framePayload q.1) = q.2)
      ∧ statusFrame.kind ≠ .verdict ∧ statusFrame.kind ≠ .report
      ∧ (let s := commanded .active none (List.replicate 7 statusFrame)
        s.line.txq.length < 8 ∧ s.assembler.vehicle = none ∧ s.former.isEmpty = true ∧ s.admission.claims = []
          ∧ s.control.load = none ∧ s.handler.replay = none ∧ ∀ r ∈ s.assembler.history, r.tag ≠ 41)
      ∧ Request.reload.alwaysServed = false ∧ (some openVehicle : Option OpenVehicle) ≠ none
      ∧ ([{ lorry with tag := 40 }, lorry] = [{ lorry with tag := 40 }] ++ lorry :: [] ∧ lorry.tag = 41
        ∧ ∀ b ∈ [{ lorry with tag := 40 }], b.tag ≠ 41) := by decide +kernel

theorem witness_AcknowledgedCommandsRun :
    (due (.statusPage 4)).line.txq.length < 8 ∧ (due (.statusPage 4)).handler.due = some (.statusPage 4)
      ∧ (due .sense).handler.due = some .sense ∧ (due .reload).handler.due = some .reload
      ∧ (due .clearCounters).handler.due = some .clearCounters
      ∧ (∀ m ∈ [Maintenance.statusPage 0, .sense],
        let s := { verdictQueue with handler := { base.handler with due := some m } }
        let d : TxFrame := { statusFrame with kind := .verdict, arrival := 6 }
        8 ≤ s.line.txq.length ∧ s.admission.claims = [] ∧ s.handler.due = some m ∧ d ∈ s.line.txq
          ∧ d.use ≠ .replay ∧ ∀ g ∈ s.line.txq, g.arrival ≠ 7 → g ≠ d → g.arrival < d.arrival) := by decide +kernel

/-- A record of four axles: two load parts and two spacing parts; and the queue that has filled by then. -/
theorem witness_ReplayBeginsWithItsVerdict :
    let r := { lorry with axles := openList.take 4 }
    let full := withLine (due (.readVehicle r)) fun l => { l with txq := List.replicate 8 statusFrame }
    (due (.readVehicle r)).handler.due = some (.readVehicle r)
      ∧ (due (.readVehicle r)).line.txq.length < 8 ∧ (r.axles.length + 2) / 3 = 2
      ∧ full.handler.due = some (.readVehicle r) ∧ 8 ≤ full.line.txq.length ∧ full.admission.claims = [] := by
  decide +kernel

end Sys2Proof.Machine.Tests
end

section
/-! PROOFS. The speed of a paired axle against the pairing speeds (02, R20 and R29). -/

namespace Sys2Proof.Machine

/-! ## Rounded quotients against a whole bound -/

/-- The model's quotient rounded up is the library's. -/
theorem ceilDiv_eq (n d : Nat) : ceilDiv n d = n ⌈/⌉ d :=
  Nat.ceilDiv_eq_add_pred_div n d |>.symm

theorem ceilDiv_le_iff {n d k : Nat} (hd : 0 < d) : ceilDiv n d ≤ k ↔ n ≤ d * k := by
  rw [ceilDiv_eq, ceilDiv_le_iff_le_mul hd]

theorem ceilDiv_pos {n d : Nat} (hn : 0 < n) (hd : 0 < d) : 0 < ceilDiv n d := by
  by_contra hzero
  have hle : n ≤ d * 0 := (ceilDiv_le_iff hd).1 (Nat.le_of_not_lt hzero)
  omega

/-- Rounding half up never falls below a whole number that the quotient reaches. -/
theorem le_roundHalfUp {n d k : Nat} (hd : 0 < d) (h : k * d ≤ n) : k ≤ roundHalfUp n d :=
  (Nat.le_div_iff_mul_le (by omega)).2 <| calc
    k * (2 * d) = 2 * (k * d) := Nat.mul_left_comm k 2 d
    _ ≤ 2 * n + d := by omega

/-- Rounding half up never exceeds a whole number that the quotient does not exceed: the half added
stays below one. -/
theorem roundHalfUp_le {n d k : Nat} (hd : 0 < d) (h : n ≤ k * d) : roundHalfUp n d ≤ k :=
  Nat.le_of_lt_succ <| (Nat.div_lt_iff_lt_mul (by omega)).2 <| calc
    2 * n + d < 2 * (k * d) + 2 * d := by omega
    _ = (k + 1) * (2 * d) := by ring

/-! ## The limits of Δn (R20) -/

theorem deltaMin_pos {rowSpacing vMax : Nat} (hD : 0 < rowSpacing) (hv : 0 < vMax) :
    0 < deltaMin rowSpacing vMax :=
  ceilDiv_pos (by omega) hv

/-- A Δn keeps the lower limit exactly when the highest speed covers the row spacing in it. -/
theorem deltaMin_le_iff {rowSpacing vMax dn : Nat} (hv : 0 < vMax) :
    deltaMin rowSpacing vMax ≤ dn ↔ rowSpacing * 4096 ≤ vMax * dn :=
  ceilDiv_le_iff hv

/-- A Δn keeps the upper limit exactly when the lowest speed does not pass the row spacing in it. -/
theorem le_deltaMax_iff {rowSpacing vMin dn : Nat} (hv : 0 < vMin) :
    dn ≤ deltaMax rowSpacing vMin ↔ vMin * dn ≤ rowSpacing * 4096 := by
  rw [deltaMax, Nat.le_div_iff_mul_le hv, Nat.mul_comm]

/-! ## The speed (R29) -/

theorem pairedAxle_speed (rowSpacing dn : Nat) (a b : RowAxle) :
    (pairedAxle rowSpacing a b dn).speed = some (roundHalfUp (rowSpacing * 4096) dn) := rfl

/-- The limits of Δn are the pairing speeds turned round, and rounding half up keeps whole bounds. -/
theorem roundHalfUp_speed_mem_Icc {rowSpacing vMin vMax dn : Nat} (hD : 0 < rowSpacing)
    (hMin : 0 < vMin) (hMax : 0 < vMax) (hlo : deltaMin rowSpacing vMax ≤ dn)
    (hhi : dn ≤ deltaMax rowSpacing vMin) :
    roundHalfUp (rowSpacing * 4096) dn ∈ Set.Icc vMin vMax := by
  have hdn : 0 < dn := (deltaMin_pos hD hMax).trans_le hlo
  exact ⟨le_roundHalfUp hdn ((le_deltaMax_iff hMin).1 hhi),
    roundHalfUp_le hdn ((deltaMin_le_iff hMax).1 hlo)⟩

/-- Settles O21: the bounds on Δn turn into bounds on the quotient, and the defaults are computed. -/
theorem pairedSpeedLiesWithinThePairingSpeeds :
    Obligations.PairedSpeedLiesWithinThePairingSpeeds := by
  refine ⟨?general, by decide, by decide, by decide, by decide⟩
  case general =>
    intro rowSpacing vMin vMax dn a b hD hD' hMin hMinMax hlo hhi
    have hMax : 0 < vMax := by omega
    obtain ⟨hvMin, hvMax⟩ := roundHalfUp_speed_mem_Icc hD hMin hMax hlo hhi
    have hquotient : roundHalfUp (rowSpacing * 4096) dn
        = (2 * rowSpacing * 4096 + dn) / (2 * dn) := by
      rw [roundHalfUp, Nat.mul_assoc]
    exact ⟨by omega, deltaMin_pos hD hMax, _, pairedAxle_speed rowSpacing dn a b, hquotient,
      hvMin, hvMax⟩

end Sys2Proof.Machine
end

section
/-! PROOFS. The Span Table's tests of a claim (06, R94). -/

namespace Sys2Proof.Machine

/-! ## What the tests answer -/

/-- R94's table: when each answer is due. The row that gives a reason fails and those before it pass;
CANNOT_VOUCH stands in no row. -/
def ClaimAnswerDue (site : SiteSection) (t : SpanTable) (a : Nat) : Option Reason → Prop
  | some .tableFull => spanCapacity ≤ t.entries.length
  | some .count => t.entries.length < spanCapacity ∧ site.maxHeavies < t.count + 1
  | some .budget =>
    t.entries.length < spanCapacity ∧ t.count + 1 ≤ site.maxHeavies
      ∧ site.spanBudget < t.sum + site.lightAllowance + a
  | none =>
    t.entries.length < spanCapacity ∧ t.count + 1 ≤ site.maxHeavies
      ∧ t.sum + site.lightAllowance + a ≤ site.spanBudget
  | some .cannotVouch => False

theorem claimAnswerDue_claimTest (site : SiteSection) (t : SpanTable) (a : Nat) :
    ClaimAnswerDue site t a (claimTest site t a) := by
  unfold claimTest
  split
  case isTrue hfull => exact hfull
  case isFalse hroom =>
    have hroom := Nat.lt_of_not_le hroom
    split
    case isTrue hcount => exact ⟨hroom, hcount⟩
    case isFalse hcount =>
      have hcount := Nat.le_of_not_lt hcount
      split
      case isTrue hbudget => exact ⟨hroom, hcount, hbudget⟩
      case isFalse hbudget => exact ⟨hroom, hcount, Nat.le_of_not_lt hbudget⟩

theorem claimTest_eq_of_due {site : SiteSection} {t : SpanTable} {a : Nat} {answer : Option Reason}
    (hdue : ClaimAnswerDue site t a answer) : claimTest site t a = answer := by
  match answer, hdue with
  | some .tableFull, hfull => exact if_pos hfull
  | some .count, ⟨hroom, hcount⟩ =>
    rw [claimTest, if_neg hroom.not_ge, if_pos hcount]
  | some .budget, ⟨hroom, hcount, hbudget⟩ =>
    rw [claimTest, if_neg hroom.not_ge, if_neg hcount.not_gt, if_pos hbudget]
  | none, ⟨hroom, hcount, hbudget⟩ =>
    rw [claimTest, if_neg hroom.not_ge, if_neg hcount.not_gt, if_neg hbudget.not_gt]

/-- The rows exclude one another, so an answer tells which of them decided. -/
theorem claimTest_eq_iff {site : SiteSection} {t : SpanTable} {a : Nat} {answer : Option Reason} :
    claimTest site t a = answer ↔ ClaimAnswerDue site t a answer :=
  ⟨fun heq => heq ▸ claimAnswerDue_claimTest site t a, claimTest_eq_of_due⟩

/-! ## A station's own claim, and the table of 32 -/

/-- Under a calibration in force, a station's own claim passes when its view fails no test of R94. -/
theorem claimPasses_iff {s : State} {cal : Calibration} (hcal : s.control.calibration = some cal)
    (a : Nat) : s.claimPasses a = true ↔ claimTest cal.site s.span a = none := by
  have hsite : s.site? = some cal.site := by simp [State.site?, hcal]
  simp [State.claimPasses, hsite]

/-- A table of at most 32 entries has a free place just when it does not hold 32. -/
theorem length_lt_spanCapacity_iff {entries : List SpanEntry} (hlen : entries.length ≤ 32) :
    entries.length < spanCapacity ↔ entries.length ≠ 32 := by
  rw [spanCapacity]
  omega

/-- Settles O35: each answer by its own row of R94, and the own claim's passing by the row that gives no
reason. -/
theorem claimTestsGiveTheFirstFailingReason : Obligations.ClaimTestsGiveTheFirstFailingReason := by
  refine ⟨?tests, ?ownClaim⟩
  case tests =>
    intro site table a hlen
    have hroom := length_lt_spanCapacity_iff hlen
    refine ⟨?full, ?count, ?budget, ?pass, ?fullFailsCount⟩
    case full => rw [claimTest_eq_iff, ClaimAnswerDue, ← Nat.not_lt, hroom, not_not]
    case count => rw [claimTest_eq_iff, ClaimAnswerDue, hroom]
    case budget => rw [claimTest_eq_iff, ClaimAnswerDue, hroom]
    case pass => rw [claimTest_eq_iff, ClaimAnswerDue, hroom]
    case fullFailsCount =>
      intro hfull hcount hmax
      omega
  case ownClaim =>
    intro s cal a hcal hlen
    rw [claimPasses_iff hcal, claimTest_eq_iff, ClaimAnswerDue, length_lt_spanCapacity_iff hlen]

end Sys2Proof.Machine
end

section
/-! PROOFS. What a command can change: one constructor for each part of State, with what its new value keeps. -/

namespace Sys2Proof.Machine

/-! ## What the parts of State keep -/

theorem le_bump (k : Counter) : k ≤ bump k := by
  rw [BitVec.le_def, bump_toNat]
  have := k.isLt
  omega

theorem le_bumpBy (k : Counter) (n : Nat) : k ≤ bumpBy k n := by
  rw [BitVec.le_def, bumpBy_toNat]
  have := k.isLt
  omega

/-- No counter of `a` is above that of `b`. -/
structure Counters.AtMost (a b : Counters) : Prop where
  framesSent : a.framesSent ≤ b.framesSent
  arbitrationLosses : a.arbitrationLosses ≤ b.arbitrationLosses
  bitErrors : a.bitErrors ≤ b.bitErrors
  noEchoFaults : a.noEchoFaults ≤ b.noEchoFaults
  crcErrors : a.crcErrors ≤ b.crcErrors
  formatErrors : a.formatErrors ≤ b.formatErrors
  framingErrors : a.framingErrors ≤ b.framingErrors
  holdEvents : a.holdEvents ≤ b.holdEvents
  claimsOffered : a.claimsOffered ≤ b.claimsOffered
  claimsGranted : a.claimsGranted ≤ b.claimsGranted
  objectionsSent : a.objectionsSent ≤ b.objectionsSent
  unknownDepartures : a.unknownDepartures ≤ b.unknownDepartures
  sampleCrcErrors : a.sampleCrcErrors ≤ b.sampleCrcErrors
  sampleGaps : a.sampleGaps ≤ b.sampleGaps
  vehiclesClosed : a.vehiclesClosed ≤ b.vehiclesClosed
  txDrops : a.txDrops ≤ b.txDrops

theorem Counters.AtMost.refl (a : Counters) : a.AtMost a := by constructor <;> exact BitVec.le_refl _

theorem Counters.AtMost.trans {a b d : Counters} (h : a.AtMost b) (k : b.AtMost d) : a.AtMost d where
  framesSent := BitVec.le_trans h.framesSent k.framesSent
  arbitrationLosses := BitVec.le_trans h.arbitrationLosses k.arbitrationLosses
  bitErrors := BitVec.le_trans h.bitErrors k.bitErrors
  noEchoFaults := BitVec.le_trans h.noEchoFaults k.noEchoFaults
  crcErrors := BitVec.le_trans h.crcErrors k.crcErrors
  formatErrors := BitVec.le_trans h.formatErrors k.formatErrors
  framingErrors := BitVec.le_trans h.framingErrors k.framingErrors
  holdEvents := BitVec.le_trans h.holdEvents k.holdEvents
  claimsOffered := BitVec.le_trans h.claimsOffered k.claimsOffered
  claimsGranted := BitVec.le_trans h.claimsGranted k.claimsGranted
  objectionsSent := BitVec.le_trans h.objectionsSent k.objectionsSent
  unknownDepartures := BitVec.le_trans h.unknownDepartures k.unknownDepartures
  sampleCrcErrors := BitVec.le_trans h.sampleCrcErrors k.sampleCrcErrors
  sampleGaps := BitVec.le_trans h.sampleGaps k.sampleGaps
  vehiclesClosed := BitVec.le_trans h.vehiclesClosed k.vehiclesClosed
  txDrops := BitVec.le_trans h.txDrops k.txDrops

/-- The FIFO and the ready run are within their capacities, and the FIFO of an ABSENT head is empty. -/
def SamplePort.Within (p : SamplePort) : Prop :=
  p.fifo.length ≤ fifoCapacity ∧ (p.head = .absent → p.fifo = []) ∧ p.runLength < readyRunFrames

def AxleFormer.Within (f : AxleFormer) : Prop :=
  f.pendingA.length ≤ pendingCapacity ∧ f.waitingB.length ≤ waitingCapacity

/-- The open list, the closed-vehicle queue and the ring are within their capacities, and records wait
outbound only while the queue is full (03 R51). -/
def Assembler.Within (a : Assembler) : Prop :=
  (∀ v, a.vehicle = some v → v.axles.length ≤ openListCapacity)
    ∧ a.closedQueue.length ≤ closedQueueCapacity
    ∧ (a.outbound ≠ [] → a.closedQueue.length = closedQueueCapacity)
    ∧ a.history.length ≤ historyCapacity

def LineControl.Within (l : LineControl) : Prop := l.txq.length ≤ txCapacity ∧ l.noEchoRun ≤ 3

/-- The transmit queue is ordered by kind code (08 R135). -/
def LineControl.Ordered (l : LineControl) : Prop := l.txq.Pairwise fun a b => a.kind.code ≤ b.kind.code

/-- Keys are distinct, and the sum and the count are those of the entries (06 R91, R93). -/
structure SpanTable.Sound (t : SpanTable) : Prop where
  distinct : (t.entries.map fun e => (e.origin, e.tag)).Nodup
  sum : t.sum = loadOf t.entries
  count : t.count = t.entries.length

/-- Every entry of `b` is one of `a`, but for its departing mark (06 R103). -/
def SpanTable.KeptFrom (b a : SpanTable) : Prop :=
  ∀ e ∈ b.entries, ∃ e' ∈ a.entries, e = { e' with departing := e.departing }

/-! ## One change -/

/-- The two commands that end a calibration load (10 R159). -/
def EndsLoad (c : Instr) : Prop :=
  (∃ dt record, c = .calibrationLoadEnd dt record) ∨ ∃ dt, c = .calMemoryTimeout dt

/-- The two commands at which closure enters HELD (09 R145). -/
def Closes (c : Instr) : Prop := (∃ dt, c = .closeInDebounced dt) ∨ ∃ dt, c = .holdTaken dt

/-- A change of one part of the state that the command `c` can make. Each constructor names a part, gives
its new value, and says what that value keeps. -/
inductive Change (c : Instr) (s : State) : State → Prop
  /-- of Station Control, neither the mode, a load, the straps nor the calibration -/
  | control (k : StationControl) (mode : k.mode = s.control.mode) (load : k.load = s.control.load)
      (straps : k.straps = s.control.straps) (calibration : k.calibration = s.control.calibration) :
      Change c s { s with control := k }
  /-- the mode, of a station that is not FAILED, or at the end of its start load -/
  | mode (m : Mode) (l : Option Learning) (from_ : s.control.mode ≠ .failed ∨ EndsLoad c)
      (to_ : m ≠ .failed) : Change c s { s with control := { s.control with mode := m, learning := l } }
  /-- a load begins -/
  | load (l : Option Load) (from_ : s.control.mode ≠ .failed) :
      Change c s { s with control := { s.control with load := l } }
  /-- a load ends -/
  | loadEnd (cmd : EndsLoad c) (k : StationControl) (mode : k.mode = s.control.mode)
      (straps : k.straps = s.control.straps) : Change c s { s with control := k }
  /-- entry to FAILED -/
  | failed (cmd : ∃ dt f, c = .selfTest dt f) :
      Change c s { s with control := { s.control with mode := .failed } }
  | counters (k : Counters) (up : s.counters.AtMost k ∨ ∃ dt, c = .clearCounters dt) :
      Change c s { s with counters := k }
  | port (p : SamplePort) (within : s.port.Within → p.Within) : Change c s { s with port := p }
  | detector (d : PulseDetector)
      (within : s.detector.queue.length ≤ pulseQueueCapacity → d.queue.length ≤ pulseQueueCapacity) :
      Change c s { s with detector := d }
  | former (f : AxleFormer) (within : s.former.Within → f.Within) : Change c s { s with former := f }
  | assembler (a : Assembler) (within : s.assembler.Within → a.Within) : Change c s { s with assembler := a }
  | admission (a : Admission)
      (within : s.admission.claims.length ≤ claimCapacity → a.claims.length ≤ claimCapacity)
      (placed : s.sign.closure = .opened ∨ (s.admission.claims = [] → a.claims = [])) :
      Change c s { s with admission := a }
  | span (t : SpanTable) (sound : s.span.Sound → t.Sound) (kept : t.KeptFrom s.span)
      (within : t.entries.length ≤ s.span.entries.length) : Change c s { s with span := t }
  /-- an entry joins the view -/
  | grant (cmd : ∃ dt levels, c = .endOfFrame dt levels) (mode : s.control.mode ≠ .failed) (t : SpanTable)
      (sound : s.span.Sound → t.Sound) (within : t.entries.length ≤ spanCapacity) :
      Change c s { s with span := t }
  | line (l : LineControl) (within : s.line.Within → l.Within) (ordered : s.line.Ordered → l.Ordered)
      (demand : l.holdDemand = true → s.control.mode = .failed → s.line.holdDemand = true) :
      Change c s { s with line := l }
  | sign (g : SignControl) (closure : s.sign.closure = .opened → g.closure = .opened) :
      Change c s { s with sign := g }
  /-- closure enters HELD -/
  | held (cmd : Closes c) (g : SignControl) : Change c s { s with sign := g }
  | handler (h : CommandHandler) : Change c s { s with handler := h }

/-- The changes that the command `c` makes, one after another. -/
abbrev Changes (c : Instr) : State → State → Prop := Relation.ReflTransGen (Change c)

/-- What each change keeps, the changes of a command keep. -/
theorem Changes.keeps {c : Instr} {P : State → Prop} (h : ∀ s t, Change c s t → P s → P t) {s t : State}
    (hc : Changes c s t) (hs : P s) : P t := by
  induction hc with
  | refl => exact hs
  | tail _ hstep ih => exact h _ _ hstep ih

/-! ## Chains of changes -/

section Chains
variable {c : Instr} {s t : State}

theorem Changes.none (s : State) : Changes c s s := .refl

theorem Changes.trans {u : State} (h : Changes c s t) (k : Changes c t u) : Changes c s u :=
  Relation.ReflTransGen.trans h k

theorem Changes.control (h : Changes c s t) (k : StationControl) (mode : k.mode = t.control.mode)
    (load : k.load = t.control.load) (straps : k.straps = t.control.straps)
    (calibration : k.calibration = t.control.calibration) : Changes c s { t with control := k } :=
  h.tail (.control k mode load straps calibration)

theorem Changes.counters (h : Changes c s t) (k : Counters) (up : t.counters.AtMost k) :
    Changes c s { t with counters := k } := h.tail (.counters k (.inl up))

theorem Changes.port (h : Changes c s t) (p : SamplePort) (within : t.port.Within → p.Within) :
    Changes c s { t with port := p } := h.tail (.port p within)

theorem Changes.detector (h : Changes c s t) (d : PulseDetector)
    (within : t.detector.queue.length ≤ pulseQueueCapacity → d.queue.length ≤ pulseQueueCapacity) :
    Changes c s { t with detector := d } := h.tail (.detector d within)

theorem Changes.former (h : Changes c s t) (f : AxleFormer) (within : t.former.Within → f.Within) :
    Changes c s { t with former := f } := h.tail (.former f within)

theorem Changes.assembler (h : Changes c s t) (a : Assembler) (within : t.assembler.Within → a.Within) :
    Changes c s { t with assembler := a } := h.tail (.assembler a within)

/-- A change of claims that adds none. -/
theorem Changes.admission (h : Changes c s t) (a : Admission)
    (le : a.claims.length ≤ t.admission.claims.length) : Changes c s { t with admission := a } :=
  h.tail (.admission a le.trans (.inr fun e => by
    rw [e] at le; exact List.length_eq_zero_iff.1 (Nat.le_zero.1 le)))

theorem Changes.span (h : Changes c s t) (v : SpanTable) (sound : t.span.Sound → v.Sound)
    (kept : v.KeptFrom t.span) (within : v.entries.length ≤ t.span.entries.length) :
    Changes c s { t with span := v } := h.tail (.span v sound kept within)

/-- A change of the line that adds no frame and sets no HOLD demand. -/
theorem Changes.line (h : Changes c s t) (l : LineControl) (queue : l.txq.Sublist t.line.txq)
    (run : t.line.noEchoRun ≤ 3 → l.noEchoRun ≤ 3)
    (demand : l.holdDemand = true → t.line.holdDemand = true) :
    Changes c s { t with line := l } :=
  h.tail (.line l (fun w => ⟨queue.length_le.trans w.1, run w.2⟩) (fun o => o.sublist queue)
    fun d _ => demand d)

theorem Changes.sign (h : Changes c s t) (g : SignControl)
    (closure : t.sign.closure = .opened → g.closure = .opened) : Changes c s { t with sign := g } :=
  h.tail (.sign g closure)

theorem Changes.handler (h : Changes c s t) (k : CommandHandler) : Changes c s { t with handler := k } :=
  h.tail (.handler k)

end Chains

theorem settle_changes (c : Instr) (s : State) : Changes c s s.settle := by
  have h := (Changes.none (c := c) s).sign s.settle.sign id
  exact h.control s.settle.control rfl rfl rfl rfl

end Sys2Proof.Machine
end

section
/-! PROOFS. The changes of the operations that the commands share. -/

namespace Sys2Proof.Machine

variable {c : Instr}

/-! ## Sense records, the sign hold and the transmit queue -/

theorem raise_changes (s : State) (code : SenseCode) (detail : Byte) (reference : Option StationNo) :
    Changes c s (s.raise code detail reference) := by
  unfold State.raise
  split <;> exact (Changes.none s).control _ rfl rfl rfl rfl

theorem divertNotice_changes (s : State) : Changes c s s.divertNotice := (Changes.none s).sign _ id

theorem countDrop_changes (s : State) : Changes c s s.countDrop :=
  (Changes.none s).counters _ { Counters.AtMost.refl s.counters with txDrops := le_bump _ }

/-- The youngest droppable frame is one of the queue. -/
theorem youngestDroppable_mem {l : LineControl} {d : TxFrame} (h : l.youngestDroppable = some d) :
    d ∈ l.txq := by
  have key : ∀ (q : List TxFrame) (best : Option TxFrame), q.foldl l.younger best = some d →
      best = some d ∨ d ∈ q := by
    intro q
    induction q with
    | nil => intro best h; exact .inl h
    | cons f q ih =>
      intro best h
      rcases ih _ h with h | h
      · have hy : l.younger best f = best ∨ l.younger best f = some f := by
          unfold LineControl.younger
          split
          · split
            · exact .inr rfl
            · split
              · exact .inr rfl
              · exact .inl rfl
          · exact .inl rfl
        rcases hy with hy | hy
        · exact .inl (hy ▸ h)
        · rw [hy] at h; exact .inr (by simp [Option.some.inj h])
      · exact .inr (List.mem_cons_of_mem f h)
  rw [youngestDroppable_eq] at h
  simpa using key _ _ h

/-- A frame joins behind those of its own or a lower kind code, so the order by kind stands (08 R135). -/
theorem insertFrame_ordered (f : TxFrame) {q : List TxFrame}
    (h : q.Pairwise fun a b => a.kind.code ≤ b.kind.code) :
    (insertFrame f q).Pairwise fun a b => a.kind.code ≤ b.kind.code := by
  induction q with
  | nil => simp [insertFrame]
  | cons g l ih =>
    obtain ⟨hg, hl⟩ := List.pairwise_cons.1 h
    unfold insertFrame
    split
    · next hlt =>
      refine List.pairwise_cons.2 ⟨fun x hx => ?_, h⟩
      rcases List.mem_cons.1 hx with rfl | hx
      · omega
      · have := hg x hx; omega
    · next hge =>
      refine List.pairwise_cons.2 ⟨fun x hx => ?_, ih hl⟩
      rcases mem_insertFrame.1 hx with rfl | hx
      · omega
      · exact hg x hx

/-- A frame joins in place of those that left. -/
theorem Changes.joined {s t : State} (h : Changes c s t) (f : TxFrame) {q : List TxFrame}
    (sub : q.Sublist t.line.txq) (room : t.line.Within → q.length < txCapacity) :
    Changes c s { t with line := { t.line with txq := insertFrame f q } } :=
  h.tail (.line _ (fun w => ⟨by simpa using room w, w.2⟩) (fun o => insertFrame_ordered f (o.sublist sub))
    fun d _ => d)

theorem putFrame_changes (s : State) (kind : FrameKind) (use : FrameUse) (payload : List Byte) :
    Changes c s (s.putFrame kind use payload).1 := by
  unfold State.putFrame
  dsimp only
  split
  · next room => exact (Changes.none s).joined _ (List.Sublist.refl _) fun _ => room
  · split
    · next d hd =>
      have hmem : d ∈ s.line.txq := by
        split at hd
        · cases hd
        · exact youngestDroppable_mem hd
      refine ((Changes.none s).joined _ List.erase_sublist fun w => ?_).trans (countDrop_changes _)
      have := List.length_erase_of_mem hmem
      have := List.length_pos_of_mem hmem
      have := w.1
      omega
    · split
      · exact (countDrop_changes s).handler _
      · exact countDrop_changes s

theorem replayNext_changes (s : State) : Changes c s s.replayNext := by
  unfold State.replayNext
  split
  · exact .none s
  · exact (Changes.none s).handler _
  · exact ((Changes.none s).handler _).trans (putFrame_changes _ _ _ _)

theorem replayAfter_changes (s : State) (f : TxFrame) : Changes c s (s.replayAfter f) := by
  unfold State.replayAfter
  split
  · exact replayNext_changes s
  · exact .none s

@[simp] theorem putFrame_admission (s : State) (k u p) : (s.putFrame k u p).1.admission = s.admission := by
  unfold State.putFrame; dsimp only; repeat' split
  all_goals rfl

theorem preCheck_changes (s : State) : Changes c s s.preCheck := by
  unfold State.preCheck
  split
  · exact .none s
  · next d l hd =>
    split
    · have h : Changes c s ((s.putFrame .claim .ordinary (claimPayload d.vehicle d.dwell s.spanEnd)).1.setHeadClaim
          { d with state := .offeredQueued }) :=
        (putFrame_changes s _ _ _).admission _ (by simp [hd])
      dsimp only
      split
      · exact h
      · exact h.trans (replayAfter_changes _ _)
    · exact .none s

theorem enqueue_changes (s : State) (kind : FrameKind) (use : FrameUse) (payload : List Byte) :
    Changes c s (s.enqueue kind use payload) := by
  have h : Changes c s (s.putFrame kind use payload).1 := putFrame_changes _ _ _ _
  unfold State.enqueue
  dsimp only
  split
  · exact h
  · split
    · exact h.trans (preCheck_changes _)
    · exact (h.trans (preCheck_changes _)).trans (replayAfter_changes _ _)

theorem removeFrame_changes (s : State) (f : TxFrame) : Changes c s (s.removeFrame f) :=
  (Changes.none s).line _ List.filter_sublist id id

theorem removeClaimFrame_changes (s : State) : Changes c s s.removeClaimFrame :=
  (Changes.none s).line _ List.filter_sublist id id

/-! ## Claims and vehicles -/

theorem mapClaim_changes (s : State) (tag : Tag) (f : Claim → Claim) : Changes c s (s.mapClaim tag f) :=
  (Changes.none s).admission _ (by simp)

theorem dropClaim_changes (s : State) (tag : Tag) : Changes c s (s.dropClaim tag) :=
  (Changes.none s).admission _ (List.length_filter_le _ _)

theorem updateClaims_changes (s : State) (f : Claim → Claim) : Changes c s (s.updateClaims f) :=
  (Changes.none s).admission _ (by simp)

theorem pushHistory_length_le {ring : List VehicleRecord} (h : ring.length ≤ historyCapacity)
    (r : VehicleRecord) : (pushHistory ring r).length ≤ historyCapacity := by
  unfold pushHistory
  split <;> simp [historyCapacity] at * <;> omega

theorem remember_changes (s : State) (r : VehicleRecord) : Changes c s (s.remember r) :=
  (Changes.none s).assembler _ fun ⟨hv, hq, ho, hh⟩ => ⟨hv, hq, ho, pushHistory_length_le hh r⟩

theorem recall_changes (s : State) (r : VehicleRecord) : Changes c s (s.recall r) :=
  (Changes.none s).assembler _ fun ⟨hv, hq, ho, hh⟩ => ⟨hv, hq, ho, by simpa using hh⟩

theorem announce_changes (s : State) (r : VehicleRecord) (o : VehicleOutcome) :
    Changes c s (s.announce r o) := by
  unfold State.announce
  dsimp only
  split
  · exact (enqueue_changes _ _ _ _).trans (divertNotice_changes _)
  · exact enqueue_changes _ _ _ _

theorem finishVehicle_changes (s : State) (r : VehicleRecord) (o : VehicleOutcome) :
    Changes c s (s.finishVehicle r o) := (remember_changes s _).trans (announce_changes _ _ _)

theorem finishClaim_changes (s : State) (d : Claim) (o : VehicleOutcome) :
    Changes c s (s.finishClaim d o) := (recall_changes s _).trans (announce_changes _ _ _)

theorem endClaim_changes (s : State) (d : Claim) (o : VehicleOutcome) : Changes c s (s.endClaim d o) := by
  have dropped : Changes c s (match d.state with
      | .offeredQueued | .offeredInFlight => (s.dropClaim d.vehicle.tag).removeClaimFrame
      | .waiting | .backoff _ => s.dropClaim d.vehicle.tag) := by
    split
    · exact (dropClaim_changes s _).trans (removeClaimFrame_changes _)
    · exact (dropClaim_changes s _).trans (removeClaimFrame_changes _)
    · exact dropClaim_changes s _
    · exact dropClaim_changes s _
  unfold State.endClaim
  cases d.lateMark with
  | none => exact dropped.trans (finishClaim_changes _ _ _)
  | some o => exact dropped

theorem endClaims_changes (cs : List Claim) (o : VehicleOutcome) :
    ∀ s : State, Changes c s (s.endClaims cs o) := by
  induction cs with
  | nil => exact Changes.none
  | cons d l ih => exact fun s => (endClaim_changes s d o).trans (ih (s.endClaim d o))

theorem dropUncoordinated_changes (s : State) : Changes c s s.dropUncoordinated := by
  unfold State.dropUncoordinated
  split
  · exact .none s
  · exact endClaims_changes _ _ s

/-! ## Closure, learning and the line state -/

theorem enterReopening_changes {s : State} (h : s.sign.closure ≠ .opened) : Changes c s s.enterReopening :=
  (Changes.none s).sign _ fun e => absurd e h

theorem enterHeld_changes (hc : Closes c) (s : State) : Changes c s s.enterHeld := by
  unfold State.enterHeld
  split
  · exact .none s
  · exact ((Changes.none s).tail (.held hc _)).trans (endClaims_changes _ _ _)

theorem startLearning_changes {s : State} (h : s.control.mode ≠ .failed ∨ EndsLoad c) :
    Changes c s s.startLearning :=
  (Changes.none s).tail (.mode _ _ h (by decide))

theorem isolate_changes (s : State) : Changes c s s.isolate :=
  (((Changes.none s).line
    { s.line with state := .isolated, isolationTimer := some (s.after isolationTime) }
    (List.Sublist.refl _) id id).trans (raise_changes _ _ _ _)).trans (dropUncoordinated_changes _)

/-! ## The Span Table -/

theorem SpanTable.KeptFrom.of_subset {a b : SpanTable} (h : b.entries ⊆ a.entries) : b.KeptFrom a :=
  fun e he => ⟨e, h he, rfl⟩

theorem SpanTable.remove_sound {t : SpanTable} {e : SpanEntry} (he : e ∈ t.entries) (h : t.Sound) :
    (t.remove e).Sound where
  distinct := h.distinct.sublist (List.erase_sublist.map _)
  sum := by
    have hp := ((List.perm_cons_erase he).map SpanEntry.assessedGross).sum_eq
    simp only [List.map_cons, List.sum_cons] at hp
    have := h.sum
    simp only [SpanTable.remove, loadOf] at *
    omega
  count := by simp [SpanTable.remove, h.count, List.length_erase_of_mem he]

theorem SpanTable.find_mem {t : SpanTable} {origin : StationNo} {tag : Tag} {e : SpanEntry}
    (h : t.find origin tag = some e) : e ∈ t.entries := List.mem_of_find?_eq_some h

theorem removeEntry_changes {s : State} {e : SpanEntry} (he : e ∈ s.span.entries) :
    Changes c s (s.removeEntry e) :=
  ((Changes.none s).span _ (SpanTable.remove_sound he)
    (.of_subset (List.erase_subset)) (List.erase_sublist.length_le)).trans
    (preCheck_changes _)

theorem applyDepart_changes (s : State) (origin : StationNo) (tag : Tag) :
    Changes c s (s.applyDepart origin tag) := by
  unfold State.applyDepart
  split
  · exact .none s
  · split
    · next e he => exact removeEntry_changes (SpanTable.find_mem he)
    · exact (Changes.none s).counters _
        { Counters.AtMost.refl s.counters with unknownDepartures := le_bump _ }

/-- A new entry under a key that the table does not hold keeps it sound (06 R91, R93). -/
theorem SpanTable.append_sound {t : SpanTable} {e : SpanEntry} (hn : t.holds e.origin e.tag = false)
    (h : t.Sound) : ({ t with entries := t.entries ++ [e], sum := t.sum + e.assessedGross
                              count := t.count + 1 } : SpanTable).Sound where
  distinct := by
    have hnew : ∀ x ∈ t.entries, ¬ (x.origin = e.origin ∧ x.tag = e.tag) := by
      intro x hx hk
      have := List.any_eq_false.1 hn x hx
      simp [SpanEntry.hasKey, hk] at this
    rw [List.map_append, List.nodup_append]
    refine ⟨h.distinct, by simp, ?_⟩
    intro k hk k' hk' heq
    obtain ⟨x, hx, rfl⟩ := List.mem_map.1 hk
    simp only [List.map_cons, List.map_nil, List.mem_singleton] at hk'
    rw [hk'] at heq
    exact hnew x hx (by simpa using heq)
  sum := by simp [h.sum, loadOf]
  count := by simp [h.count]

theorem addEntry_changes (hc : ∃ dt levels, c = .endOfFrame dt levels) (s : State) (origin : StationNo)
    (p : ClaimPayload) : Changes c s (s.addEntry origin p) := by
  have counted : ∀ v : SpanTable, v.entries = s.span.entries → v.sum = s.span.sum →
      v.count = s.span.count → Changes c s { s with span := v } := by
    intro v he hs hn
    refine (Changes.none s).span v (fun h => ⟨?_, ?_, ?_⟩) (.of_subset (by simp [he])) (by simp [he])
    · rw [he]; exact h.distinct
    · rw [hs, he]; exact h.sum
    · rw [hn, he]; exact h.count
  unfold State.addEntry
  split
  · exact .none s
  · next hm =>
    split
    · exact counted _ rfl rfl rfl
    · next hh =>
      split
      · exact counted _ rfl rfl rfl
      · next hl =>
        refine (Changes.none s).tail (.grant hc (by simpa using hm) _ (SpanTable.append_sound ?_) ?_)
        · simpa [State.entryOf] using hh
        · simp only [List.length_append, List.length_singleton]
          omega

/-- The departing mark leaves keys and loads as they are (06 R103). -/
theorem markDeparting_changes (s : State) (e : SpanEntry) :
    Changes c s { s with span := s.span.markDeparting e } := by
  have same : ∀ {β : Type} (f : SpanEntry → β), (∀ x : SpanEntry, f { x with departing := true } = f x) →
      (s.span.markDeparting e).entries.map f = s.span.entries.map f := by
    intro β f hf
    simp only [SpanTable.markDeparting, List.map_map]
    refine List.map_congr_left fun x _ => ?_
    simp only [Function.comp]
    split
    · exact hf x
    · rfl
  refine (Changes.none s).span _ (fun h => ⟨?_, ?_, ?_⟩) ?_ (by simp [SpanTable.markDeparting])
  · rw [same _ fun _ => rfl]; exact h.distinct
  · rw [loadOf, same _ fun _ => rfl]; exact h.sum
  · simpa [SpanTable.markDeparting] using h.count
  · intro x hx
    simp only [SpanTable.markDeparting, List.mem_map] at hx
    obtain ⟨y, hy, rfl⟩ := hx
    refine ⟨y, hy, ?_⟩
    split <;> rfl

end Sys2Proof.Machine
end

section
/-! PROOFS. The changes of each command's step, chapter by chapter, and of a whole command. -/

namespace Sys2Proof.Machine

variable {c : Instr}

/-! ## Admission Unit (05) -/

@[simp] theorem insertClaim_length (d : Claim) (l : List Claim) :
    (insertClaim d l).length = l.length + 1 := by
  induction l with
  | nil => rfl
  | cons e l ih => unfold insertClaim; split <;> simp [ih]

theorem displaceHead_changes (s : State) : Changes c s s.displaceHead := by
  unfold State.displaceHead
  split
  · exact .none s
  · next d l hd =>
    split
    · exact ((Changes.none s).admission
        { s.admission with claims := { d with state := .waiting } :: s.admission.claims.tail }
        (by simp [hd])).trans (removeClaimFrame_changes _)
    · exact .none s

theorem displaceHead_keeps (s : State) :
    s.displaceHead.admission.claims.length = s.admission.claims.length ∧ s.displaceHead.sign = s.sign := by
  unfold State.displaceHead
  split
  · exact ⟨rfl, rfl⟩
  · next d l hd =>
    split
    · exact ⟨by simp [State.setHeadClaim, hd], rfl⟩
    · exact ⟨rfl, rfl⟩

/-- A claim would be the head where it is placed (05 R76). -/
def State.placesHead (s : State) (d : Claim) : Bool :=
  match s.admission.claims with
  | [] => true
  | e :: _ => decide (modDiff d.deadline e.deadline < 0)

/-- A claim stands in its place and its vehicle in the ring; neither its deadline nor the pre-check has
been looked at yet (05 R76). -/
def State.placed (s : State) (d : Claim) : State :=
  let u := if s.placesHead d then s.displaceHead else s
  ({ u with admission := { u.admission with claims := insertClaim d u.admission.claims } } : State).remember
    d.vehicle

theorem placeClaim_eq (s : State) (d : Claim) :
    s.placeClaim d =
      if s.placesHead d then
        (if reached (s.placed d).now d.deadline then (s.placed d).endClaim d d.lateOutcome
          else s.placed d).preCheck
      else if reached (s.placed d).now d.deadline then (s.placed d).endClaim d d.lateOutcome
      else s.placed d := rfl

theorem placed_changes {s : State} (ho : s.sign.closure = .opened)
    (hl : s.admission.claims.length < claimCapacity) (d : Claim) : Changes c s (s.placed d) := by
  have joins : ∀ u : State, Changes c s u → u.sign = s.sign →
      u.admission.claims.length = s.admission.claims.length →
      Changes c s (({ u with admission := { u.admission with
        claims := insertClaim d u.admission.claims } } : State).remember d.vehicle) :=
    fun u hu hs hn =>
      (hu.tail (.admission _ (fun _ => by simpa [hn] using hl) (.inl (by rw [hs, ho])))).trans
        (remember_changes _ _)
  obtain ⟨hlen, hsign⟩ := displaceHead_keeps s
  unfold State.placed
  split
  · exact joins _ (displaceHead_changes s) hsign hlen
  · exact joins s (.none s) rfl rfl

theorem placeClaim_changes {s : State} (ho : s.sign.closure = .opened)
    (hl : s.admission.claims.length < claimCapacity) (d : Claim) : Changes c s (s.placeClaim d) := by
  rw [placeClaim_eq]
  have placed : Changes c s (s.placed d) := placed_changes ho hl d
  have ended : Changes c s (if reached (s.placed d).now d.deadline then
      (s.placed d).endClaim d d.lateOutcome else s.placed d) := by
    split
    · exact placed.trans (endClaim_changes _ _ _)
    · exact placed
  split
  · exact ended.trans (preCheck_changes _)
  · exact ended

theorem acceptHeavy_changes (s : State) (r : VehicleRecord) : Changes c s (s.acceptHeavy r) := by
  unfold State.acceptHeavy
  split
  · exact finishVehicle_changes _ _ _
  · next ho =>
    split
    · dsimp only
      split
      · exact finishVehicle_changes _ _ _
      · split
        · exact finishVehicle_changes _ _ _
        · next hl => exact placeClaim_changes (by simpa using ho) (by omega) _
    · exact finishVehicle_changes _ _ _

theorem acceptRecordStep_changes (s : State) : Changes c s (acceptRecordStep s) := by
  unfold acceptRecordStep
  split
  · exact .none s
  · split
    · exact .none s
    · have taken : Changes c s { s with admission := { s.admission with waiting := none } } :=
        (Changes.none s).admission _ (Nat.le_refl _)
      dsimp only
      split
      · exact taken.trans (acceptHeavy_changes _ _)
      · exact taken.trans (finishVehicle_changes _ _ _)

theorem backoffExpiryStep_changes (s : State) (tag : Tag) : Changes c s (backoffExpiryStep s tag) := by
  unfold backoffExpiryStep
  split
  · exact .none s
  · split
    · split
      · dsimp only
        split
        · exact (mapClaim_changes _ _ _).trans (preCheck_changes _)
        · exact mapClaim_changes _ _ _
      · exact .none s
    all_goals exact .none s

theorem deadlineExpiryStep_changes (s : State) (tag : Tag) : Changes c s (deadlineExpiryStep s tag) := by
  unfold deadlineExpiryStep
  split
  · exact .none s
  · split
    · split
      · exact (mapClaim_changes _ _ _).trans (finishClaim_changes _ _ _)
      · dsimp only
        split
        · exact (endClaim_changes _ _ _).trans (preCheck_changes _)
        · exact endClaim_changes _ _ _
    · exact .none s

theorem claimGranted_changes (hc : ∃ dt levels, c = .endOfFrame dt levels) (s : State)
    (payload : List Byte) : Changes c s (s.claimGranted payload) := by
  unfold State.claimGranted
  have added := addEntry_changes hc s s.control.straps.number (claimPayloadOf payload)
  dsimp only
  generalize s.addEntry s.control.straps.number (claimPayloadOf payload) = u at added ⊢
  have counted := added.counters { u.counters with claimsGranted := bump u.counters.claimsGranted }
    { Counters.AtMost.refl _ with claimsGranted := le_bump _ }
  split
  · exact counted
  · split
    · exact (counted.trans (dropClaim_changes _ _)).trans (finishClaim_changes _ _ _)
    · exact (counted.trans (enqueue_changes _ _ _ _)).trans (dropClaim_changes _ _)

theorem claimObjected_changes (s : State) (o : Objection) : Changes c s (s.claimObjected o) := by
  unfold State.claimObjected
  split
  · exact .none s
  · split
    · exact dropClaim_changes _ _
    · exact mapClaim_changes _ _ _

theorem claimAttemptEnded_changes (s : State) : Changes c s s.claimAttemptEnded := by
  unfold State.claimAttemptEnded
  split
  · exact .none s
  · split
    · exact ((dropClaim_changes _ _).trans (removeClaimFrame_changes _)).trans (preCheck_changes _)
    · exact mapClaim_changes _ _ _

theorem claimHeld_changes (s : State) : Changes c s s.claimHeld := by
  unfold State.claimHeld
  split
  · exact .none s
  · exact endClaim_changes _ _ _

/-! ## Station Control: loads and starts (10) -/

theorem beginLoad_changes {s : State} (h : s.control.mode ≠ .failed) (kind : LoadKind) :
    Changes c s (s.beginLoad kind) := (Changes.none s).tail (.load _ h)

theorem calibrationLoadBeginStep_changes (s : State) : Changes c s (calibrationLoadBeginStep s) := by
  unfold calibrationLoadBeginStep
  split
  · exact .none s
  · next h =>
    have hm : s.control.mode ≠ .failed := by simp at h; exact h.2
    split
    · exact beginLoad_changes hm _
    · split
      · refine ((Changes.none s).control { s.control with reloadAsked := false } rfl rfl rfl rfl).trans
          (beginLoad_changes ?_ _)
        exact hm
      · exact .none s

theorem calibrationRetryStep_changes (s : State) : Changes c s (calibrationRetryStep s) := by
  unfold calibrationRetryStep
  split
  · next h =>
    refine beginLoad_changes (fun hm => ?_) _
    simp [hm] at h
  · exact .none s

theorem moveLearning_changes (s : State) : Changes c s s.moveLearning := by
  unfold State.moveLearning
  split
  · exact (Changes.none s).control _ rfl rfl rfl rfl
  · exact .none s

theorem zeroLampTimers_changes (s : State) : Changes c s s.zeroLampTimers := by
  unfold State.zeroLampTimers
  split
  · exact (Changes.none s).sign _ id
  · exact .none s

theorem queueStatus_changes (s : State) : Changes c s s.queueStatus := enqueue_changes _ _ _ _

theorem endStart_changes (hc : EndsLoad c) (s : State) : Changes c s s.endStart :=
  (((Changes.none s).control { s.control with startStep := .done } rfl rfl rfl rfl).trans
    (startLearning_changes (.inr hc))).trans (queueStatus_changes _)

theorem endLoad_changes (hc : EndsLoad c) (s : State) (kind : LoadKind) (result : LoadResult) :
    Changes c s (s.endLoad kind result) := by
  unfold State.endLoad
  have raised : Changes c s (s.raiseLoad kind result.record) := by
    unfold State.raiseLoad
    split
    · exact .none s
    · split
      · exact .none s
      · exact raise_changes _ _ _ _
  generalize s.raiseLoad kind result.record = u at raised ⊢
  have zeroed := (raised.tail (.loadEnd hc
    { u.control with
      calibration := result.calibration
      mask := { u.control.mask with calPort := result.isSilent }
      load := none, lastLoadEnd := some u.now, lastLoadResult := result.record } rfl rfl)).trans
    (zeroLampTimers_changes _)
  refine Changes.trans ?_ (dropUncoordinated_changes _)
  cases kind with
  | start => exact zeroed.trans (endStart_changes hc _)
  | retry => exact zeroed.trans (moveLearning_changes _)
  | reload =>
    dsimp only
    split
    · exact (zeroed.trans (moveLearning_changes _)).trans (queueStatus_changes _)
    · exact zeroed.trans (moveLearning_changes _)

theorem calibrationLoadEndStep_changes (hc : EndsLoad c) (s : State) (record : List Byte) :
    Changes c s (calibrationLoadEndStep s record) := by
  unfold calibrationLoadEndStep
  split
  · exact .none s
  · split
    · exact endLoad_changes hc _ _ _
    · exact .none s

theorem calMemoryTimeoutStep_changes (hc : EndsLoad c) (s : State) :
    Changes c s (calMemoryTimeoutStep s) := by
  unfold calMemoryTimeoutStep
  split
  · exact .none s
  · split
    · exact endLoad_changes hc _ _ _
    · exact .none s

theorem headWaitLimitStep_changes (s : State) : Changes c s (headWaitLimitStep s) := by
  unfold headWaitLimitStep
  split
  · exact ((Changes.none s).control
      { s.control with mask := { s.control.mask with head := true }, startStep := .calibration }
      rfl rfl rfl rfl).trans (raise_changes _ _ _ _)
  · exact .none s

/-! ## Closure and Sign Controller (09) -/

theorem closeInEdgeStep_changes (s : State) (level : Bool) : Changes c s (closeInEdgeStep s level) := by
  unfold closeInEdgeStep
  split
  · exact .none s
  · exact (Changes.none s).sign _ id

theorem closeInDebouncedStep_changes (hc : Closes c) (s : State) :
    Changes c s (closeInDebouncedStep s) := by
  unfold closeInDebouncedStep
  split
  · split
    · have asserted : Changes c s { s with sign := { s.sign with closeIn := true } } :=
        (Changes.none s).sign _ id
      unfold State.closeInAsserted
      dsimp only
      split
      · exact asserted.trans (enterHeld_changes hc _)
      · next hm =>
        refine (asserted.tail (.line s.line.demandHold id id fun _ hf => ?_)).trans (enterHeld_changes hc _)
        exact absurd hf (by simpa using hm)
    · have released : Changes c s { s with
          sign := { s.sign with closeIn := false }, line := { s.line with holdDemand := false } } :=
        ((Changes.none s).sign { s.sign with closeIn := false } id).line _ (List.Sublist.refl _) id
          (by simp)
      unfold State.closeInReleased
      dsimp only
      split
      · next hh =>
        refine released.trans (enterReopening_changes fun ho => ?_)
        simp only at ho
        simp [ho] at hh
      · exact released
  · exact .none s

theorem reopenTimerExpiryStep_changes (s : State) : Changes c s (reopenTimerExpiryStep s) := by
  unfold reopenTimerExpiryStep
  split
  · exact (Changes.none s).sign _ fun _ => rfl
  · exact .none s

theorem longHoldTimerStep_changes (s : State) : Changes c s (longHoldTimerStep s) := by
  unfold longHoldTimerStep
  split
  · exact (Changes.none s).sign _ id
  · exact .none s

theorem holdUntilReachedStep_changes (s : State) : Changes c s (holdUntilReachedStep s) := by
  unfold holdUntilReachedStep
  split
  · exact (Changes.none s).sign _ id
  · exact .none s

@[simp] theorem setLamp_closure (g : SignControl) (lamp : Lamp) (l : LampState) :
    (g.setLamp lamp l).closure = g.closure := by cases lamp <;> rfl

theorem lampFeedbackChangeStep_changes (s : State) (lamp : Lamp) (current : Bool) :
    Changes c s (lampFeedbackChangeStep s lamp current) :=
  (Changes.none s).sign _ fun h => (setLamp_closure _ _ _).trans h

theorem lampDisagreementExpiryStep_changes (s : State) (lamp : Lamp) :
    Changes c s (lampDisagreementExpiryStep s lamp) := by
  unfold lampDisagreementExpiryStep
  dsimp only
  split
  · exact .none s
  · split
    · exact (((Changes.none s).sign _ fun h => (setLamp_closure _ _ _).trans h).trans
        (raise_changes _ _ _ _)).trans (enqueue_changes _ _ _ _)
    · exact .none s

/-! ## Vehicle Assembler (03) -/

/-- After a feed, records wait outbound only while the closed-vehicle queue is full (03 R51). -/
theorem Assembler.feed_within {a : Assembler}
    (hv : ∀ v, a.vehicle = some v → v.axles.length ≤ openListCapacity)
    (hq : a.closedQueue.length ≤ closedQueueCapacity) (hh : a.history.length ≤ historyCapacity) :
    a.feed.Within := by
  refine ⟨hv, ?_, ?_, hh⟩
  · simp only [Assembler.feed, List.length_append, List.length_take]
    omega
  · intro hne
    simp only [Assembler.feed, ne_eq, List.drop_eq_nil_iff, Nat.not_le] at hne
    simp only [Assembler.feed, List.length_append, List.length_take]
    omega

theorem closeVehicle_changes (s : State) (cause : CloseCause) : Changes c s (s.closeVehicle cause) := by
  unfold State.closeVehicle
  split
  · exact .none s
  · have ended : Changes c s { s with
        former := { s.former with lastDn := none }, assembler := { s.assembler with vehicle := none } } :=
      ((Changes.none s).former { s.former with lastDn := none } id).assembler _
        fun ⟨_, hq, ho, hh⟩ => ⟨by simp, hq, ho, hh⟩
    dsimp only
    split
    · exact ended
    · refine (ended.assembler _ fun ⟨hv, hq, _, hh⟩ => Assembler.feed_within ?_ ?_ ?_).counters _
        { Counters.AtMost.refl s.counters with vehiclesClosed := le_bumpBy _ _ }
      · exact hv
      · exact hq
      · exact hh

theorem openVehicle_changes (s : State) (opening : Index) (gap split : Bool) :
    Changes c s (s.openVehicle opening gap split) :=
  (Changes.none s).assembler _ fun ⟨_, hq, ho, hh⟩ =>
    ⟨fun v hv => by cases hv; simp, hq, ho, hh⟩

@[simp] theorem insertAxle_length (x : Axle) (l : List Axle) :
    (insertAxle x l).length = l.length + 1 := by
  induction l with
  | nil => rfl
  | cons a l ih => unfold insertAxle; split <;> simp [ih]

/-- An axle joins an open list that has a place for it. -/
theorem joinOpen_changes {s : State} (x : Axle) (i : Index)
    (h : ∀ v, s.assembler.vehicle = some v → v.axles.length < openListCapacity) :
    Changes c s (s.joinOpen x i) := by
  unfold State.joinOpen
  split
  · exact .none s
  · next v hv =>
    refine (Changes.none s).assembler _ fun ⟨_, hq, ho, hh⟩ => ⟨fun w hw => ?_, hq, ho, hh⟩
    cases hw
    have := h v hv
    simp only [insertAxle_length]
    omega

theorem takeAxle_changes (s : State) (x : Axle) : Changes c s (s.takeAxle x) := by
  have opened : ∀ (u : State) (i : Index) (gap split : Bool),
      Changes c u ((u.openVehicle i gap split).joinOpen x i) := fun u i gap split =>
    (openVehicle_changes u i gap split).trans
      (joinOpen_changes x i fun v hv => by cases hv; simp [openListCapacity])
  unfold State.takeAxle
  dsimp only
  split
  · exact opened _ _ _ _
  · next v hv =>
    split
    · next hl => exact joinOpen_changes x _ fun w hw => by rw [hv] at hw; cases hw; exact hl
    · exact (closeVehicle_changes _ _).trans (opened _ _ _ _)

theorem closeIfDue_changes (s : State) : Changes c s s.closeIfDue := by
  unfold State.closeIfDue
  split
  · exact .none s
  · split
    · exact closeVehicle_changes _ _
    · exact .none s

theorem sampleTests_changes (s : State) : Changes c s s.sampleTests := by
  unfold State.sampleTests
  split
  · exact .none s
  · next v hv =>
    split
    · exact closeVehicle_changes _ _
    · split
      · refine Changes.trans ((Changes.none s).assembler
          { s.assembler with vehicle := some { v with stallMark := true } } fun ⟨hw, hq, ho, hh⟩ =>
          ⟨fun w e => ?_, hq, ho, hh⟩) (closeIfDue_changes _)
        cases e
        exact hw v hv
      · exact .none s

theorem takeSample_changes (s : State) (index : Index) (stamp : Time) (presence : Bool) :
    Changes c s (s.takeSample index stamp presence) := by
  unfold State.takeSample
  dsimp only
  refine Changes.trans ?_ (sampleTests_changes _)
  have handed : Changes c s { s with assembler := { s.assembler with
      current := some ⟨index, stamp⟩, presence, afterBreak := false
      runStart := if s.assembler.current.isNone || s.assembler.presence != presence then some index
        else s.assembler.runStart
      vehicle := s.assembler.vehicle.map fun v =>
        { v with presenceSeen := v.presenceSeen || presence } } } := by
    refine (Changes.none s).assembler _ fun ⟨hv, hq, ho, hh⟩ => ⟨fun w hw => ?_, hq, ho, hh⟩
    obtain ⟨v, e, rfl⟩ := Option.map_eq_some_iff.1 hw
    exact hv v e
  split
  · exact handed.trans (openVehicle_changes _ _ _ _)
  · exact handed

theorem breakAssembler_changes (s : State) : Changes c s s.breakAssembler :=
  (closeVehicle_changes s _).assembler _ fun ⟨hv, hq, ho, hh⟩ => ⟨hv, hq, ho, hh⟩

/-! ## Axle Former (02) -/

theorem withReport_changes {s t : State} (h : Changes c s t) (before : State) :
    Changes c s (before.withReport t) := by
  unfold State.withReport
  split
  · exact h.trans (closeIfDue_changes t)
  · exact h

/-- The pending list loses entries. -/
theorem pendingA_changes (s : State) {l : List RowAxle} (h : l.length ≤ s.former.pendingA.length) :
    Changes c s { s with former := { s.former with pendingA := l } } :=
  (Changes.none s).former _ fun ⟨ha, hb⟩ => ⟨h.trans ha, hb⟩

/-- The waiting list loses entries. -/
theorem waitingB_changes (s : State) {l : List RowAxle} (h : l.length ≤ s.former.waitingB.length) :
    Changes c s { s with former := { s.former with waitingB := l } } :=
  (Changes.none s).former _ fun ⟨ha, hb⟩ => ⟨ha, h.trans hb⟩

theorem pairRowB_changes (s : State) (b : RowAxle) : Changes c s (s.pairRowB b) := by
  unfold State.pairRowB
  split
  · exact ((pendingA_changes s (List.erase_sublist.length_le)).trans (takeAxle_changes _ _)).former _ id
  · exact takeAxle_changes _ _

@[simp] theorem insertRowAxle_length (x : RowAxle) (l : List RowAxle) :
    (insertRowAxle x l).length = l.length + 1 := by
  induction l with
  | nil => rfl
  | cons a l ih => unfold insertRowAxle; split <;> simp [ih]

theorem pendRowA_changes (s : State) (x : RowAxle) : Changes c s (s.pendRowA x) := by
  unfold State.pendRowA
  have hlen := insertRowAxle_length x s.former.pendingA
  split
  · exact .none s
  · next oldest rest e =>
    rw [e, List.length_cons] at hlen
    split
    · exact (pendingA_changes s (by omega)).trans (takeAxle_changes _ _)
    · next hl => exact (Changes.none s).former _ fun ⟨_, hb⟩ => ⟨by simpa using hl, hb⟩

@[simp] theorem closeVehicle_waitingB (s : State) (cause : CloseCause) :
    (s.closeVehicle cause).former.waitingB = s.former.waitingB := by
  unfold State.closeVehicle
  split
  · rfl
  · dsimp only; split <;> rfl

@[simp] theorem joinOpen_former (s : State) (x : Axle) (i : Index) :
    (s.joinOpen x i).former = s.former := by
  unfold State.joinOpen; split <;> rfl

@[simp] theorem takeAxle_waitingB (s : State) (x : Axle) :
    (s.takeAxle x).former.waitingB = s.former.waitingB := by
  unfold State.takeAxle
  dsimp only
  split
  · rw [joinOpen_former]; rfl
  · split
    · rw [joinOpen_former]
    · rw [joinOpen_former]; exact closeVehicle_waitingB _ _

@[simp] theorem pairRowB_waitingB (s : State) (b : RowAxle) :
    (s.pairRowB b).former.waitingB = s.former.waitingB := by
  unfold State.pairRowB
  split
  · exact takeAxle_waitingB _ _
  · exact takeAxle_waitingB _ _

/-- The waiting list of the former is as given. -/
def State.withWaitingB (s : State) (w : List RowAxle) : State :=
  { s with former := { s.former with waitingB := w } }

theorem closeVehicle_withWaitingB (s : State) (w : List RowAxle) (cause : CloseCause) :
    (s.withWaitingB w).closeVehicle cause = (s.closeVehicle cause).withWaitingB w := by
  unfold State.closeVehicle State.withWaitingB
  cases s.assembler.vehicle with
  | none => rfl
  | some v => dsimp only; split <;> rfl

theorem joinOpen_withWaitingB (s : State) (w : List RowAxle) (x : Axle) (i : Index) :
    (s.withWaitingB w).joinOpen x i = (s.joinOpen x i).withWaitingB w := by
  unfold State.joinOpen State.withWaitingB
  cases s.assembler.vehicle <;> rfl

theorem takeAxle_withWaitingB (s : State) (w : List RowAxle) (x : Axle) :
    (s.withWaitingB w).takeAxle x = (s.takeAxle x).withWaitingB w := by
  unfold State.takeAxle
  have open_ : ∀ (u : State) (i : Index) (gap split : Bool),
      (u.withWaitingB w).openVehicle i gap split = (u.openVehicle i gap split).withWaitingB w :=
    fun _ _ _ _ => rfl
  have assembler : (s.withWaitingB w).assembler = s.assembler := rfl
  rw [assembler]
  cases s.assembler.vehicle with
  | none => dsimp only; rw [open_, joinOpen_withWaitingB]
  | some v =>
    dsimp only
    split
    · rw [joinOpen_withWaitingB]
    · rw [closeVehicle_withWaitingB, open_, joinOpen_withWaitingB]

/-- A pairing looks at no waiting row-axle but its own. -/
theorem pairRowB_withWaitingB (s : State) (w : List RowAxle) (b : RowAxle) :
    (s.withWaitingB w).pairRowB b = (s.pairRowB b).withWaitingB w := by
  unfold State.pairRowB
  have pending : (s.withWaitingB w).former.pendingA.find?
      (isPartner (s.withWaitingB w).dnMin (s.withWaitingB w).dnMax b.first)
      = s.former.pendingA.find? (isPartner s.dnMin s.dnMax b.first) := rfl
  rw [pending]
  cases s.former.pendingA.find? (isPartner s.dnMin s.dnMax b.first) with
  | none => exact takeAxle_withWaitingB _ _ _
  | some a =>
    dsimp only
    exact congrArg (fun u : State =>
      { u with former := { u.former with lastDn := some (modDiff b.first a.first).toNat } })
      (takeAxle_withWaitingB { s with former := { s.former with pendingA := s.former.pendingA.erase a } } w
        (pairedAxle s.rowSpacing a b (modDiff b.first a.first).toNat))

theorem awaitRowB_changes (s : State) (x : RowAxle) : Changes c s (s.awaitRowB x) := by
  unfold State.awaitRowB
  cases hw : s.former.waitingB with
  | nil =>
    refine (Changes.none s).former _ fun ⟨ha, _⟩ => ⟨ha, ?_⟩
    simp [hw, insertRowAxle, waitingCapacity]
  | cons oldest rest =>
    dsimp only
    split
    · have paired := pairRowB_withWaitingB s rest oldest
      unfold State.withWaitingB at paired
      rw [paired]
      refine (pairRowB_changes s oldest).former _ fun ⟨ha, hb⟩ => ⟨ha, ?_⟩
      rw [pairRowB_waitingB, hw] at hb
      simpa using hb
    · next hl =>
      refine (Changes.none s).former _ fun ⟨ha, _⟩ => ⟨ha, ?_⟩
      simp only [hw, insertRowAxle_length]
      omega

theorem completeRowAxle_changes (s : State) (row : Row) (x : RowAxle) :
    Changes c s (s.completeRowAxle row x) := by
  unfold State.completeRowAxle
  cases row
  · exact ((Changes.none s).former (s.former.setOpen .a none) id).trans (pendRowA_changes _ _)
  · exact ((Changes.none s).former (s.former.setOpen .b none) id).trans (awaitRowB_changes _ _)

theorem completeIfPassed_changes (s : State) (row : Row) (h : Index) :
    Changes c s (s.completeIfPassed row h) := by
  unfold State.completeIfPassed
  split
  · exact .none s
  · split
    · exact withReport_changes (completeRowAxle_changes _ _ _) _
    · exact .none s

theorem pairDue_changes (h : Index) (n : Nat) : ∀ s : State, Changes c s (s.pairDue h n) := by
  induction n with
  | zero => exact Changes.none
  | succ n ih =>
    intro s
    unfold State.pairDue
    split
    · exact .none s
    · split
      · exact .none s
      · exact (withReport_changes ((waitingB_changes s (List.erase_sublist.length_le)).trans
          (pairRowB_changes _ _)) s).trans (ih _)

theorem expirePending_changes (h : Index) (n : Nat) :
    ∀ s : State, Changes c s (s.expirePending h n) := by
  induction n with
  | zero => exact Changes.none
  | succ n ih =>
    intro s
    unfold State.expirePending
    split
    · exact .none s
    · split
      · exact .none s
      · exact (withReport_changes ((pendingA_changes s (List.erase_sublist.length_le)).trans
          (takeAxle_changes _ _)) s).trans (ih _)

theorem handleHorizon_changes (s : State) : Changes c s s.handleHorizon := by
  unfold State.handleHorizon
  split
  · exact .none s
  · split
    · exact .none s
    · exact (((completeIfPassed_changes s _ _).trans (completeIfPassed_changes _ _ _)).trans
        (pairDue_changes _ _ _)).trans (expirePending_changes _ _ _)

theorem setOpen_changes (s : State) (row : Row) (x : Option RowAxle) :
    Changes c s { s with former := s.former.setOpen row x } :=
  (Changes.none s).former _ fun h => by cases row <;> exact h

theorem handleRecord_changes (s : State) (r : PulseRecord) : Changes c s (s.handleRecord r) := by
  unfold State.handleRecord
  dsimp only
  split
  · exact setOpen_changes _ _ _
  · split
    · split
      · exact completeRowAxle_changes _ _ _
      · exact setOpen_changes _ _ _
    · exact (completeRowAxle_changes _ _ _).trans (setOpen_changes _ _ _)

theorem pulseRecordTakeStep_changes (s : State) : Changes c s (pulseRecordTakeStep s) := by
  unfold pulseRecordTakeStep
  split
  · exact .none s
  · split
    · exact .none s
    · next q rest hq =>
      have taken : Changes c s { s with detector := { s.detector with queue := rest } } :=
        (Changes.none s).detector _ fun h => by
          rw [hq, List.length_cons] at h; dsimp only; omega
      exact taken.trans ((withReport_changes (handleRecord_changes _ _) _).trans
        (handleHorizon_changes _))

/-! ## Sample Port and Pulse Detector (01) -/

theorem countGap_changes (s : State) : Changes c s s.countGap :=
  (Changes.none s).counters _ { Counters.AtMost.refl s.counters with sampleGaps := le_bump _ }

theorem restartHeadTimer_changes (s : State) : Changes c s s.restartHeadTimer :=
  (Changes.none s).port _ id

theorem acceptFrame_changes {s : State} (hr : s.port.head = .ready)
    (hl : s.port.fifo.length < fifoCapacity) (f : SampleFrame) (index : Index) (gaps : Nat)
    (mark : EntryMark) (counted : Bool) : Changes c s (s.acceptFrame f index gaps mark counted) := by
  unfold State.acceptFrame
  dsimp only
  have within : ∀ u : State, u.port = s.port → ∀ p : SamplePort, p.head = u.port.head →
      p.fifo.length = u.port.fifo.length + 1 → p.runLength = u.port.runLength →
      u.port.Within → p.Within := by
    intro u hu p hh hf hn hw
    refine ⟨by rw [hf, hu]; omega, fun ha => ?_, hn ▸ hw.2.2⟩
    rw [hh, hu, hr] at ha
    cases ha
  split
  · exact (countGap_changes s).port _ (within s.countGap rfl _ rfl (by simp) rfl)
  · exact (Changes.none s).port _ (within s rfl _ rfl (by simp) rfl)

theorem judgeFrame_changes {s : State} (hr : s.port.head = .ready) (f : SampleFrame) :
    Changes c s (s.judgeFrame f) := by
  unfold State.judgeFrame
  dsimp only
  split
  · exact .none s
  · split
    · exact ((restartHeadTimer_changes s).trans (countGap_changes _)).port _ id
    · next hl =>
      have hl : s.restartHeadTimer.port.fifo.length < fifoCapacity := Nat.lt_of_not_le hl
      have hr : s.restartHeadTimer.port.head = .ready := hr
      split <;> exact (restartHeadTimer_changes s).trans (acceptFrame_changes hr hl _ _ _ _ _)

theorem headReady_changes {s : State} (ha : s.port.head = .absent) (f : SampleFrame) :
    Changes c s (s.headReady f) := by
  let p : SamplePort := { s.port with
    head := .ready, lastGood := some f, hold := some f.reading
    lastIndex := some (resyncIndex s.port.lastIndex f.sequence)
    fifo := s.port.fifo ++ [⟨resyncIndex s.port.lastIndex f.sequence, f.reading, 0, f.reading, .seed⟩]
    runLength := 0, runLast := none }
  let k : StationControl := { s.control with
    mask := { s.control.mask with head := false }
    startStep := if s.control.startStep == StartStep.headWait then .calibration else s.control.startStep }
  have within : s.port.Within → p.Within := fun hw => by
    have := hw.2.1 ha
    exact ⟨by simp [p, this, fifoCapacity], (fun h => by cases h), by simp [p, readyRunFrames]⟩
  exact (((Changes.none s).port p within).control k rfl rfl rfl rfl).trans (restartHeadTimer_changes _)

theorem runFrame_changes {s : State} (ha : s.port.head = .absent) (f : SampleFrame) :
    Changes c s (s.runFrame f) := by
  unfold State.runFrame
  split
  · split
    · exact .none s
    · next g _ _ =>
      dsimp only
      generalize (if f.sequence = g.sequence + 1 then s.port.runLength + 1 else 1) = n
      split
      · exact headReady_changes ha f
      · next hn => exact (Changes.none s).port _ fun hw => ⟨hw.1, hw.2.1, Nat.lt_of_not_le hn⟩
  · split
    · exact headReady_changes ha f
    · next hn => exact (Changes.none s).port _ fun hw => ⟨hw.1, hw.2.1, Nat.lt_of_not_le hn⟩

theorem discardSample_changes (s : State) : Changes c s s.discardSample := by
  refine ((Changes.none s).counters { s.counters with sampleCrcErrors := bump s.counters.sampleCrcErrors }
    { Counters.AtMost.refl s.counters with sampleCrcErrors := le_bump _ }).port
    (if s.port.head == .absent then s.port.emptyRun else s.port) fun hw => ?_
  split
  · exact ⟨hw.1, hw.2.1, by simp [SamplePort.emptyRun, readyRunFrames]⟩
  · exact hw

theorem sampleFrameStep_changes (s : State) (bytes : List Byte) :
    Changes c s (sampleFrameStep s bytes) := by
  unfold sampleFrameStep
  split
  · exact .none s
  · split
    · exact discardSample_changes s
    · split
      · next hr => exact judgeFrame_changes (by simpa using hr) _
      · next ha =>
        refine runFrame_changes ?_ _
        cases h : s.port.head
        · rfl
        · simp [h] at ha

theorem sampleByteTimeoutStep_changes (s : State) (part : List Byte) :
    Changes c s (sampleByteTimeoutStep s part) := by
  unfold sampleByteTimeoutStep
  split
  · exact discardSample_changes s
  · exact .none s

theorem setDrop_queue (d : PulseDetector) (row : Row) (v : Bool) : (d.setDrop row v).queue = d.queue := by
  cases row <;> rfl

theorem join_within (d : PulseDetector) (r : PulseRecord) (h : d.queue.length ≤ pulseQueueCapacity) :
    (d.join r).queue.length ≤ pulseQueueCapacity := by
  unfold PulseDetector.join
  split
  · rw [setDrop_queue]; exact h
  · rw [setDrop_queue, List.length_append, List.length_singleton]; omega

theorem joinAll_within (ended : List (Channel × Option PulseInProgress)) :
    ∀ d : PulseDetector, d.queue.length ≤ pulseQueueCapacity →
      (d.joinAll ended).queue.length ≤ pulseQueueCapacity := by
  induction ended with
  | nil => exact fun _ h => h
  | cons p l ih =>
    intro d h
    refine ih _ ?_
    dsimp only
    split
    · exact join_within _ _ h
    · exact h

theorem discontinuity_changes (s : State) : Changes c s s.discontinuity := by
  unfold State.discontinuity
  refine Changes.trans (((Changes.none s).detector
    { al := s.detector.al.cleared, ar := s.detector.ar.cleared, bl := s.detector.bl.cleared
      br := s.detector.br.cleared, queue := [], dropA := false, dropB := false, settled := none }
    (by simp)).former
    { openA := none, openB := none, waitingB := [], pendingA := [], lastDn := none } fun _ => ?_)
    (breakAssembler_changes _)
  exact ⟨by simp, by simp⟩

theorem consumeSample_changes (s : State) (index : Index) (r : Reading) (isGap : Bool) :
    Changes c s (s.consumeSample index r isGap) := by
  unfold State.consumeSample
  dsimp only
  have applied := ((Changes.none (c := c) s).detector (s.detector.apply s.tOn s.tOff
      { index, stamp := s.now, temperature := r.temperature, isGap, rowDrop := false } r)
    fun h => joinAll_within _ _ h).trans (takeSample_changes _ index s.now r.presence)
  generalize State.takeSample _ index s.now r.presence = u at applied ⊢
  have settled := applied.detector { u.detector with settled := some (u.detector.settledAt index) } id
  split
  · exact settled.trans (handleHorizon_changes _)
  · exact settled

theorem consumeGaps_changes (e : FifoEntry) (n : Nat) : ∀ s : State, Changes c s (s.consumeGaps e n) := by
  induction n with
  | zero => exact Changes.none
  | succ n ih => exact fun s => (consumeSample_changes s _ _ _).trans (ih _)

theorem markEntry_changes (s : State) (e : FifoEntry) : Changes c s (s.markEntry e) := by
  unfold State.markEntry
  split
  · exact .none s
  · exact (Changes.none s).detector _ id
  · exact (discontinuity_changes s).detector _ id

theorem sampleConsumeStep_changes (s : State) : Changes c s (sampleConsumeStep s) := by
  unfold sampleConsumeStep
  split
  · exact .none s
  · next e rest hf =>
    have taken : Changes c s { s with port := { s.port with fifo := rest } } :=
      (Changes.none s).port _ fun ⟨hl, ha, hn⟩ =>
        ⟨by rw [hf, List.length_cons] at hl; dsimp only; omega,
          fun h => absurd (ha h) (by simp [hf]), hn⟩
    exact ((taken.trans (consumeGaps_changes e _ _)).trans (markEntry_changes _ e)).trans
      (consumeSample_changes _ _ _ _)

theorem resumeHeadWait_changes (s : State) : Changes c s s.resumeHeadWait :=
  (Changes.none s).control _ rfl rfl rfl rfl

theorem headLostStep_changes (s : State) : Changes c s (headLostStep s) := by
  unfold headLostStep
  split
  · refine Changes.trans (((((Changes.none s).port _ fun _ => ?_).trans (resumeHeadWait_changes _)).trans
      (raise_changes _ _ _ _)).trans (discontinuity_changes _)) (dropUncoordinated_changes _)
    exact ⟨by simp, fun _ => rfl, by simp [SamplePort.emptyRun, readyRunFrames]⟩
  · exact .none s

end Sys2Proof.Machine
end

section
/-! PROOFS. The changes of the line, maintenance, start and weighing steps, and of every command. -/

namespace Sys2Proof.Machine

variable {c : Instr}

/-! ## Line Controller (08) -/

theorem countRxError_changes (s : State) (e : RxError) : Changes c s (s.countRxError e) := by
  unfold State.countRxError
  split
  · exact (Changes.none s).counters _ { Counters.AtMost.refl s.counters with framingErrors := le_bump _ }
  · exact (Changes.none s).counters _ { Counters.AtMost.refl s.counters with formatErrors := le_bump _ }
  · exact (Changes.none s).counters _ { Counters.AtMost.refl s.counters with crcErrors := le_bump _ }

/-- The queue, the no-echo run and the HOLD demand stand; the rest of the line may change. -/
theorem Changes.lineRest {s t : State} (h : Changes c s t) (l : LineControl) (queue : l.txq = t.line.txq)
    (run : l.noEchoRun = t.line.noEchoRun) (demand : l.holdDemand = t.line.holdDemand) :
    Changes c s { t with line := l } :=
  h.line l (queue ▸ List.Sublist.refl _) (fun h => run ▸ h) fun h => demand ▸ h

theorem noteResponseError_changes (s : State) (broken : Bool) :
    Changes c s (s.noteResponseError broken) := by
  unfold State.noteResponseError
  split
  · exact ((Changes.none s).lineRest
      { s.line with rx := { s.line.rx with firstError := some .framing } } rfl rfl rfl).trans
      (countRxError_changes _ _)
  · exact .none s

theorem groundFrame_changes (s : State) : Changes c s s.groundFrame :=
  (Changes.none s).lineRest _ rfl rfl rfl

theorem isolationFailed_changes (s : State) : Changes c s s.isolationFailed :=
  (Changes.none s).lineRest _ rfl rfl rfl

theorem attemptEnded_changes (s : State) (f : TxFrame) : Changes c s (s.attemptEnded f) := by
  have claimed : Changes c s (if f.kind = .claim then s.claimAttemptEnded.dropUncoordinated else s) := by
    split
    · exact (claimAttemptEnded_changes s).trans (dropUncoordinated_changes _)
    · exact .none s
  unfold State.attemptEnded
  split
  · exact isolationFailed_changes s
  all_goals exact claimed

theorem endAttempt_changes (s : State) : Changes c s s.endAttempt := by
  unfold State.endAttempt
  split
  · exact .none s
  · exact (groundFrame_changes s).trans (attemptEnded_changes _ _)

theorem endStopped_changes (s : State) : Changes c s s.endStopped := by
  unfold State.endStopped
  split
  · exact endAttempt_changes s
  · exact .none s

theorem lineIdleStep_changes (s : State) : Changes c s (lineIdleStep s) := by
  unfold lineIdleStep
  split
  · exact .none s
  · split
    · exact ((Changes.none s).lineRest { s.line with phase := .idle, echoWait := false } rfl rfl rfl).trans
        (endAttempt_changes _)
    · exact ((Changes.none s).lineRest { s.line with echoWait := false } rfl rfl rfl).trans
        (endStopped_changes _)
    all_goals exact .none s

theorem sosReceivedStep_changes (s : State) (us : Nat) : Changes c s (sosReceivedStep s us) := by
  unfold sosReceivedStep
  split
  · exact (Changes.none s).lineRest _ rfl rfl rfl
  · exact .none s

theorem receiveFramingErrorStep_changes (s : State) (cause : FramingCause) (bytes : List Byte) :
    Changes c s (receiveFramingErrorStep s cause bytes) := by
  unfold receiveFramingErrorStep
  dsimp only
  split
  · split
    · exact ((Changes.none s).lineRest
        { s.line with phase := .seeking, inFlight := s.line.inFlight.map InFlight.passSos } rfl rfl rfl).trans
        (countRxError_changes _ _)
    · exact .none s
  · split
    · exact (Changes.none s).lineRest _ rfl rfl rfl
    · exact .none s
  · split
    · exact (noteResponseError_changes s true).lineRest _ rfl rfl rfl
    · exact .none s
  all_goals exact .none s

theorem drive_changes (s : State) (f : TxFrame) (join : Bool) : Changes c s (s.drive f join) :=
  (Changes.none s).lineRest _ rfl rfl rfl

theorem startClaim_changes (s : State) (f : TxFrame) (join : Bool) : Changes c s (s.startClaim f join) :=
  (((Changes.none s).counters { s.counters with claimsOffered := bump s.counters.claimsOffered }
    { Counters.AtMost.refl s.counters with claimsOffered := le_bump _ }).trans
    (updateClaims_changes _ _)).trans (drive_changes _ _ _)

theorem failRecheck_changes (s : State) : Changes c s s.failRecheck :=
  ((updateClaims_changes s _).trans (removeClaimFrame_changes _)).trans (preCheck_changes _)

theorem frameStartStep_changes (s : State) (join : Bool) : Changes c s (frameStartStep s join) := by
  unfold frameStartStep
  split
  · exact .none s
  · split
    · exact .none s
    · split
      · split
        · exact startClaim_changes _ _ _
        · dsimp only
          split
          · exact failRecheck_changes s
          · split
            · exact failRecheck_changes s
            · exact (failRecheck_changes s).trans (drive_changes _ _ _)
      · exact drive_changes _ _ _

theorem noEchoFaultStep_changes (s : State) : Changes c s (noEchoFaultStep s) := by
  unfold noEchoFaultStep
  split
  · exact .none s
  · next x _ =>
    split
    · exact .none s
    · have faulted := (((Changes.none (c := c) s).counters
          { s.counters with noEchoFaults := bump s.counters.noEchoFaults }
          { Counters.AtMost.refl s.counters with noEchoFaults := le_bump _ }).line
          { s.line with noEchoRun := min (s.line.noEchoRun + 1) 3, echoWait := true }
          (List.Sublist.refl _) (fun _ => Nat.min_le_right _ _) id).trans (endAttempt_changes _)
      dsimp only at faulted ⊢
      generalize State.endAttempt _ = u at faulted ⊢
      split
      · refine Changes.trans ?_ (isolate_changes _)
        split
        · exact faulted.trans (removeFrame_changes _ _)
        · exact faulted
      · exact faulted

theorem stopResponse_changes (s : State) : Changes c s { s with line := s.line.stopResponse } :=
  (Changes.none s).lineRest _ rfl rfl rfl

theorem arbitrationLossStep_changes (s : State) (cell : Nat) :
    Changes c s (arbitrationLossStep s cell) := by
  unfold arbitrationLossStep
  split
  · split
    · exact ((Changes.none s).counters
        { s.counters with arbitrationLosses := bump s.counters.arbitrationLosses }
        { Counters.AtMost.refl s.counters with arbitrationLosses := le_bump _ }).trans (endAttempt_changes _)
    · exact .none s
  · split
    · exact stopResponse_changes s
    · exact .none s
  · exact .none s

theorem countBitError_changes (s : State) : Changes c s s.countBitError :=
  (Changes.none s).counters _ { Counters.AtMost.refl s.counters with bitErrors := le_bump _ }

theorem bitErrorStep_changes (s : State) (cell : Nat) : Changes c s (bitErrorStep s cell) := by
  unfold bitErrorStep
  split
  · split
    · exact (countBitError_changes s).trans (endAttempt_changes _)
    · exact .none s
  · split
    · exact (stopResponse_changes s).trans (countBitError_changes _)
    · exact .none s
  · exact .none s

theorem driveObjection_changes (s : State) (reason : Reason) : Changes c s (s.driveObjection reason) := by
  unfold State.driveObjection
  split
  · exact ((Changes.none s).counters { s.counters with objectionsSent := bump s.counters.objectionsSent }
      { Counters.AtMost.refl s.counters with objectionsSent := le_bump _ }).lineRest _ rfl rfl rfl
  · exact .none s

theorem driveReply_changes (s : State) (r : ReplyCode × Option Maintenance) :
    Changes c s (s.driveReply r) :=
  ((Changes.none s).lineRest
    { s.line with response := some ⟨replyBytes r.1 s.control.straps.number, true, false⟩ } rfl rfl rfl).handler
    { s.handler with prepared := some { command := r.2, silent := false } }

theorem commandAtEod_changes (s : State) (payload : List Byte) :
    Changes c s (s.commandAtEod payload) := by
  have silent : Changes c s (if requestOf payload = some .restart then
      { s with handler := { s.handler with
        prepared := some { command := some .restart, silent := true } } } else s) := by
    split
    · exact (Changes.none s).handler _
    · exact .none s
  unfold State.commandAtEod
  dsimp only
  split
  · exact silent
  · exact silent
  · split
    · exact .none s
    · split
      · split
        · exact driveReply_changes _ _
        · exact .none s
      · exact driveReply_changes _ _

theorem decideResponse_changes (s : State) (bytes : List Byte) (good : Bool) :
    Changes c s (s.decideResponse bytes good) := by
  unfold State.decideResponse
  split
  · split
    · exact .none s
    · exact driveObjection_changes _ _
  · split
    · exact commandAtEod_changes _ _
    · exact .none s
  all_goals exact .none s

/-- The state in which the decisions at the end of data are made: the receiver is in the window with the
frame that it has read, and its first error, if it has one, is counted (R125). -/
def State.readFrame (s : State) (bytes : List Byte) (error : Option RxError) : State :=
  let u := { s with line := { s.line with phase := .window
                                          rx := ⟨bytes, error, false, error.isNone, none⟩ } }
  match error with
  | none => u
  | some e => u.countRxError e

theorem judgeReceived_eq (s : State) (bytes : List Byte) (noted : Option RxError) :
    s.judgeReceived bytes noted =
      (s.readFrame bytes (noted.or (frameError bytes))).decideResponse bytes
        (noted.or (frameError bytes)).isNone := by
  cases noted <;> rfl

theorem readFrame_changes (s : State) (bytes : List Byte) (error : Option RxError) :
    Changes c s (s.readFrame bytes error) := by
  have read : Changes c s { s with line := { s.line with phase := .window
                                                         rx := ⟨bytes, error, false, error.isNone, none⟩ } } :=
    (Changes.none s).lineRest _ rfl rfl rfl
  cases error with
  | none => exact read
  | some e => exact read.trans (countRxError_changes _ _)

theorem judgeReceived_changes (s : State) (bytes : List Byte) (noted : Option RxError) :
    Changes c s (s.judgeReceived bytes noted) := by
  rw [judgeReceived_eq]
  exact (readFrame_changes _ _ _).trans (decideResponse_changes _ _ _)

theorem endOfDataStep_changes (s : State) (bytes : List Byte) : Changes c s (endOfDataStep s bytes) := by
  have own : ∀ x, Changes c s (s.ownEndOfData x) := fun x => (Changes.none s).lineRest _ rfl rfl rfl
  unfold endOfDataStep
  dsimp only
  split
  · exact .none s
  · split
    · exact own _
    · exact own _
    · split
      · exact .none s
      · exact judgeReceived_changes _ _ _
    · exact judgeReceived_changes _ _ _
    · exact .none s

theorem responseSeenStep_changes (s : State) (us : Nat) : Changes c s (responseSeenStep s us) := by
  unfold responseSeenStep
  split
  · dsimp only
    generalize (_ || _ : Bool) = broken
    have seen := (noteResponseError_changes (c := c) s broken).lineRest
      { (s.noteResponseError broken).line with
        phase := .response
        rx := { (s.noteResponseError broken).line.rx with opening := some (openingOf s.bitTime us) } }
      rfl rfl rfl
    split
    · exact seen.trans (updateClaims_changes _ _)
    · exact seen
  · exact .none s

theorem endIsolation_changes (s : State) : Changes c s s.endIsolation := by
  have normal : Changes c s { s with line := { s.line with
      state := .normal, isolationFrame := none, isolationTimer := none } } :=
    (Changes.none s).lineRest _ rfl rfl rfl
  unfold State.endIsolation
  dsimp only
  split
  · next hm => exact normal.trans (startLearning_changes (.inl fun h => by simp [hm] at h))
  · next hm => exact normal.trans (startLearning_changes (.inl fun h => by simp [hm] at h))
  · exact normal
  · exact normal

theorem completeFrame_changes (hc : ∃ dt levels, c = .endOfFrame dt levels) (s : State) (f : TxFrame)
    (seen : Bool) (objection : Objection) : Changes c s (s.completeFrame f seen objection) := by
  unfold State.completeFrame
  have sent := ((Changes.none (c := c) s).counters
    { s.counters with framesSent := bump s.counters.framesSent }
    { Counters.AtMost.refl s.counters with framesSent := le_bump _ }).line
    { s.line with noEchoRun := 0, inFlight := none } (List.Sublist.refl _) (fun _ => by simp) id
  dsimp only at sent ⊢
  generalize ({ s with counters := _, line := _ } : State) = u at sent ⊢
  have left : Changes c s (if f.use = .isolation then u.endIsolation else u.removeFrame f) := by
    split
    · exact sent.trans (endIsolation_changes _)
    · exact sent.trans (removeFrame_changes _ _)
  generalize (if f.use = .isolation then u.endIsolation else u.removeFrame f) = w at left ⊢
  refine ((Changes.trans ?_ (dropUncoordinated_changes _)).trans (preCheck_changes _)).trans
    (replayAfter_changes _ _)
  split
  · split
    · exact left.trans (claimObjected_changes _ _)
    · exact left.trans (claimGranted_changes hc _ _)
  · exact left.trans (applyDepart_changes _ _ _)
  all_goals exact left

theorem compareSite_changes (s : State) (source : StationNo) (payload : List Byte) :
    Changes c s (s.compareSite source payload) := by
  unfold State.compareSite
  dsimp only
  split
  · exact .none s
  · split
    · exact (((Changes.none s).control { s.control with mismatch := s.control.mismatch ++ [source] }
        rfl rfl rfl rfl).trans (raise_changes _ _ _ _)).trans (enqueue_changes _ _ _ _)
    · exact .none s

theorem declareConflict_changes (s : State) : Changes c s s.declareConflict := by
  have declared : Changes c s (({ s with line := { s.line with
      state := .listenOnly, isolationTimer := none, isolationFrame := none } } : State).raise .identity 0
        (some s.control.straps.number)).dropUncoordinated :=
    (((Changes.none s).lineRest
      { s.line with state := .listenOnly, isolationTimer := none, isolationFrame := none } rfl rfl rfl).trans
      (raise_changes _ _ _ _)).trans (dropUncoordinated_changes _)
  unfold State.declareConflict
  split
  · exact .none s
  · exact declared
  · exact declared

theorem commandAtEof_changes (s : State) (prepared : Option Prepared) (response : Option ResponseDrive) :
    Changes c s (s.commandAtEof prepared response) := by
  unfold State.commandAtEof
  split
  · exact .none s
  · next p =>
    dsimp only
    cases p.command with
    | none => exact .none s
    | some m =>
      dsimp only
      split
      · split
        · exact (Changes.none s).handler _
        · exact .none s
      · split
        · exact (Changes.none s).handler _
        · exact .none s

theorem handOn_changes (hc : ∃ dt levels, c = .endOfFrame dt levels) (s : State) (bytes : List Byte)
    (seen : Bool) (prepared : Option Prepared) (response : Option ResponseDrive) :
    Changes c s (s.handOn bytes seen prepared response) := by
  have handed : Changes c s (match frameKind bytes with
      | some .claim => if seen then s else s.addEntry (frameSource bytes) (claimPayloadOf (framePayload bytes))
      | some .depart => s.applyDepart (departKey (framePayload bytes)).1 (departKey (framePayload bytes)).2
      | some .command => if frameTarget bytes = s.control.straps.number
          then s.commandAtEof prepared response else s
      | some .status => if (byteAt (framePayload bytes) 0).toNat / 32 = 0
          then s.compareSite (frameSource bytes) (framePayload bytes) else s
      | some .sense | some .report | some .verdict | none => s) := by
    split
    · split
      · exact .none s
      · exact addEntry_changes hc _ _ _
    · exact applyDepart_changes _ _ _
    · split
      · exact commandAtEof_changes _ _ _
      · exact .none s
    · split
      · exact compareSite_changes _ _ _
      · exact .none s
    all_goals exact .none s
  have conflict : ∀ u : State, Changes c s u → Changes c s (if frameSource bytes = u.control.straps.number
      ∧ frameSource bytes ≠ 15 then u.declareConflict else u) := by
    intro u hu
    split
    · exact hu.trans (declareConflict_changes _)
    · exact hu
  exact conflict _ handed

theorem frameOver_changes (s : State) : Changes c s s.frameOver :=
  ((Changes.none s).lineRest
    { s.line with phase := .idle, rx := .empty, response := none, echoWait := false } rfl rfl rfl).handler _

theorem endOfFrameStep_changes (hc : ∃ dt levels, c = .endOfFrame dt levels) (s : State)
    (levels : List Nat) : Changes c s (endOfFrameStep s levels) := by
  unfold endOfFrameStep
  split
  · exact .none s
  · dsimp only
    have ended : ∀ broken, Changes c s (s.noteResponseError broken).frameOver := fun broken =>
      (noteResponseError_changes s broken).trans (frameOver_changes _)
    split
    · split
      · exact (ended _).trans (endStopped_changes _)
      · exact (ended _).trans (completeFrame_changes hc _ _ _ _)
    · split
      · exact ((ended _).trans (endStopped_changes _)).trans (handOn_changes hc _ _ _ _ _)
      · exact (ended _).trans (endStopped_changes _)

theorem holdEndsFrame_changes (s : State) : Changes c s s.holdEndsFrame := by
  unfold State.holdEndsFrame
  split
  · exact .none s
  · next x _ =>
    have ended : Changes c s (if x.frame.kind = .claim then s.groundFrame.claimHeld.removeClaimFrame
        else s.groundFrame) := by
      split
      · exact ((groundFrame_changes s).trans (claimHeld_changes _)).trans (removeClaimFrame_changes _)
      · exact groundFrame_changes s
    dsimp only
    split
    · exact (groundFrame_changes s).trans (isolationFailed_changes _)
    all_goals exact ended

theorem holdTakenStep_changes (hc : Closes c) (s : State) : Changes c s (holdTakenStep s) := by
  unfold holdTakenStep
  split
  · exact .none s
  · have ended := holdEndsFrame_changes (c := c) s
    dsimp only
    generalize s.holdEndsFrame = u at ended ⊢
    exact (((ended.counters { u.counters with holdEvents := bump u.counters.holdEvents }
      { Counters.AtMost.refl u.counters with holdEvents := le_bump _ }).lineRest
      { u.line with phase := .hold, rx := .empty, response := none } rfl rfl rfl).handler
      { u.handler with prepared := none }).trans (enterHeld_changes hc _)

theorem lineRecessiveNoticeStep_changes (s : State) : Changes c s (lineRecessiveNoticeStep s) := by
  unfold lineRecessiveNoticeStep
  split
  · have seeking : Changes c s { s with line := { s.line with phase := .seeking } } :=
      (Changes.none s).lineRest _ rfl rfl rfl
    dsimp only
    split
    · next hh =>
      refine seeking.trans (enterReopening_changes fun ho => ?_)
      simp only at ho
      simp [ho] at hh
    · exact seeking
  · exact .none s

theorem isolationTimerExpiryStep_changes (s : State) : Changes c s (isolationTimerExpiryStep s) := by
  unfold isolationTimerExpiryStep
  split
  · exact (Changes.none s).lineRest _ rfl rfl rfl
  · exact .none s

/-! ## Span Table (06) -/

theorem entryExpiryStep_changes (s : State) (origin : StationNo) (tag : Tag) :
    Changes c s (entryExpiryStep s origin tag) := by
  unfold entryExpiryStep
  split
  · exact .none s
  · split
    · exact .none s
    · next e he =>
      split
      · dsimp only
        split
        · exact (removeEntry_changes (SpanTable.find_mem he)).trans (enqueue_changes _ _ _ _)
        · exact removeEntry_changes (SpanTable.find_mem he)
      · exact .none s

theorem learningTimerExpiryStep_changes (s : State) : Changes c s (learningTimerExpiryStep s) := by
  unfold learningTimerExpiryStep
  split
  · next hm _ =>
    split
    · exact (Changes.none s).tail (.mode .active none (.inl fun h => by simp [hm] at h) (by decide))
    · exact .none s
  · exact .none s

/-! ## Command Handler (11) -/

theorem clearDue_changes (s : State) : Changes c s s.clearDue := (Changes.none s).handler _

theorem statusPageStep_changes (s : State) : Changes c s (statusPageStep s) := by
  unfold statusPageStep
  split
  · exact (clearDue_changes s).trans (enqueue_changes _ _ _ _)
  · exact .none s

theorem senseStep_changes (s : State) : Changes c s (senseStep s) := by
  unfold senseStep
  split
  · exact ((clearDue_changes s).trans (enqueue_changes _ _ _ _)).control _ rfl rfl rfl rfl
  · exact .none s

theorem reloadStep_changes (s : State) : Changes c s (reloadStep s) := by
  unfold reloadStep
  split
  · exact (clearDue_changes s).control _ rfl rfl rfl rfl
  · exact .none s

theorem readVehicleStep_changes (s : State) : Changes c s (readVehicleStep s) := by
  unfold readVehicleStep
  split
  · exact ((Changes.none s).handler _).trans (enqueue_changes _ _ _ _)
  · exact .none s

theorem clearCountersStep_changes (hc : ∃ dt, c = .clearCounters dt) (s : State) :
    Changes c s (clearCountersStep s) := by
  unfold clearCountersStep
  split
  · have zeroed : Changes c s { s.clearDue with counters := .zero } :=
      (clearDue_changes s).tail (.counters .zero (.inr hc))
    exact (zeroed.span { s.span with duplicates := 0, lost := 0 } (fun h => ⟨h.distinct, h.sum, h.count⟩)
      (.of_subset fun _ h => h) (Nat.le_refl _)).control _ rfl rfl rfl rfl
  · exact .none s

/-! ## Starts (10) -/

/-- FAILED is entered (10 R155), and what was on the line is driven no further; the table, the queue and
the HOLD demand still stand. -/
def State.failing (s : State) : State :=
  let u := ({ s with control := { s.control with mode := .failed } } : State).endAttempt.dropUncoordinated
  ({ u with line := u.line.stopResponse } : State).raise .selfTest u.control.mask.toByte none

/-- FAILED is entered (10 R155): all of it but the STATUS page 0 that some stations queue. -/
def State.failedState (s : State) : State :=
  { s.failing with
    span := s.failing.span.clear
    line := { s.failing.line with txq := [], holdDemand := false }
    handler := { s.failing.handler with replay := none } }

theorem enterFailed_eq (s : State) : s.enterFailed =
    if s.failedState.control.mask.strap || s.failedState.control.mask.lineLoop then s.failedState
    else (s.failedState.putFrame .status .failedStatus s.failedState.statusPage0).1 := rfl

theorem SpanTable.clear_sound (t : SpanTable) : t.clear.Sound where
  distinct := by simp [SpanTable.clear]
  sum := rfl
  count := rfl

theorem failing_changes (hc : ∃ dt f, c = .selfTest dt f) (s : State) : Changes c s s.failing :=
  ((((Changes.none (c := c) s).tail (.failed hc)).trans (endAttempt_changes _)).trans
    (dropUncoordinated_changes _)).trans ((stopResponse_changes _).trans (raise_changes _ _ _ _))

theorem failedState_changes (hc : ∃ dt f, c = .selfTest dt f) (s : State) :
    Changes c s s.failedState :=
  (((failing_changes hc s).span s.failing.span.clear (fun _ => SpanTable.clear_sound _)
    (.of_subset (by simp [SpanTable.clear])) (by simp [SpanTable.clear])).line
    { s.failing.line with txq := [], holdDemand := false } (List.nil_sublist _) id (by simp)).handler
    { s.failing.handler with replay := none }

theorem enterFailed_changes (hc : ∃ dt f, c = .selfTest dt f) (s : State) : Changes c s s.enterFailed := by
  rw [enterFailed_eq]
  split
  · exact failedState_changes hc s
  · exact (failedState_changes hc s).trans (putFrame_changes _ _ _ _)

theorem selfTestStep_changes (hc : ∃ dt f, c = .selfTest dt f) (s : State) (f : SelfTestFailures) :
    Changes c s (selfTestStep s f) := by
  unfold selfTestStep
  split
  · have masked : Changes c s { s with control := { s.control with mask := { s.control.mask with
        memTable := f.memTable, memHistory := f.memHistory, memQueue := f.memQueue
        lineLoop := f.lineLoop } } } := (Changes.none s).control _ rfl rfl rfl rfl
    dsimp only
    split
    · exact masked.trans (enterFailed_changes hc _)
    · exact masked.control _ rfl rfl rfl rfl
  · exact .none s

/-! ## Weigh Unit and Exit Matcher (04, 07) -/

theorem exitTake_changes (s : State) (r : VehicleRecord) : Changes c s (s.exitTake r) := by
  have unmatched : Changes c s (s.exitUnmatched r) :=
    (enqueue_changes _ _ _ _).trans (finishVehicle_changes _ _ _)
  have searched : ∀ site, Changes c s (s.exitSearch site r) := by
    intro site
    unfold State.exitSearch
    split
    · exact unmatched
    · exact ((markDeparting_changes s _).trans (enqueue_changes _ _ _ _)).trans
        (finishVehicle_changes _ _ _)
  have searchedOrLight : ∀ site : SiteSection, Changes c s
      (if r.assessedGross < site.claimThreshold then s.finishVehicle r .exitLight
        else s.exitSearch site r) := by
    intro site
    split
    · exact finishVehicle_changes _ _ _
    · exact searched site
  unfold State.exitTake
  split
  · exact searchedOrLight _
  · exact searchedOrLight _
  · exact searchedOrLight _
  · split
    · exact finishVehicle_changes _ _ _
    · exact unmatched

theorem weighingStep_changes (s : State) : Changes c s (weighingStep s) := by
  unfold weighingStep
  split
  · exact .none s
  · split
    · exact .none s
    · next r rest hq =>
      have left : Changes c s { s with
          assembler := ({ s.assembler with closedQueue := rest } : Assembler).feed } := by
        refine (Changes.none s).assembler _ fun ⟨hv, hl, _, hh⟩ => Assembler.feed_within hv ?_ hh
        rw [hq, List.length_cons] at hl
        dsimp only
        omega
      dsimp only
      split
      · exact left.admission _ (Nat.le_refl _)
      · exact left.trans (exitTake_changes _ _)

/-! ## Every command -/

/-- Every command that begins no start makes its changes from the state with its time passed (log 1), the
outputs settled at the end (log 24). -/
theorem exec_changes {s t : State} (hc : ¬ IsStart c) (h : exec c s = .next t) :
    Changes c (s.advance (elapsed c)) t := by
  have settled : ∀ u : State, exec c s = done u → Changes c (s.advance (elapsed c)) u →
      Changes c (s.advance (elapsed c)) t := by
    intro u e hu
    rw [e, done_eq] at h
    cases h
    exact hu.trans (settle_changes c u)
  cases c with
  | powerOn pins => exact absurd (.inl ⟨pins, rfl⟩) hc
  | restart pins => exact absurd (.inr ⟨pins, rfl⟩) hc
  | selfTest dt f => exact settled _ rfl (selfTestStep_changes ⟨dt, f, rfl⟩ _ _)
  | sampleFrame dt bytes => exact settled _ rfl (sampleFrameStep_changes _ _)
  | sampleByteTimeout dt part => exact settled _ rfl (sampleByteTimeoutStep_changes _ _)
  | headLostTimer dt => exact settled _ rfl (headLostStep_changes _)
  | sampleConsume dt => exact settled _ rfl (sampleConsumeStep_changes _)
  | pulseRecordTake dt => exact settled _ rfl (pulseRecordTakeStep_changes _)
  | weighing dt => exact settled _ rfl (weighingStep_changes _)
  | acceptRecord dt => exact settled _ rfl (acceptRecordStep_changes _)
  | backoffExpiry dt tag => exact settled _ rfl (backoffExpiryStep_changes _ _)
  | deadlineExpiry dt tag => exact settled _ rfl (deadlineExpiryStep_changes _ _)
  | entryExpiry dt origin tag => exact settled _ rfl (entryExpiryStep_changes _ _ _)
  | learningTimerExpiry dt => exact settled _ rfl (learningTimerExpiryStep_changes _)
  | lineIdle dt => exact settled _ rfl (lineIdleStep_changes _)
  | receiveFramingError dt cause bytes => exact settled _ rfl (receiveFramingErrorStep_changes _ _ _)
  | frameStart dt join => exact settled _ rfl (frameStartStep_changes _ _)
  | noEchoFault dt => exact settled _ rfl (noEchoFaultStep_changes _)
  | arbitrationLoss dt cell => exact settled _ rfl (arbitrationLossStep_changes _ _)
  | bitError dt cell => exact settled _ rfl (bitErrorStep_changes _ _)
  | endOfData dt bytes => exact settled _ rfl (endOfDataStep_changes _ _)
  | endOfFrame dt levels => exact settled _ rfl (endOfFrameStep_changes ⟨dt, levels, rfl⟩ _ _)
  | holdTaken dt => exact settled _ rfl (holdTakenStep_changes (.inr ⟨dt, rfl⟩) _)
  | lineRecessiveNotice dt => exact settled _ rfl (lineRecessiveNoticeStep_changes _)
  | isolationTimerExpiry dt => exact settled _ rfl (isolationTimerExpiryStep_changes _)
  | closeInEdge dt level => exact settled _ rfl (closeInEdgeStep_changes _ _)
  | closeInDebounced dt => exact settled _ rfl (closeInDebouncedStep_changes (.inl ⟨dt, rfl⟩) _)
  | reopenTimerExpiry dt => exact settled _ rfl (reopenTimerExpiryStep_changes _)
  | longHoldTimer dt => exact settled _ rfl (longHoldTimerStep_changes _)
  | holdUntilReached dt => exact settled _ rfl (holdUntilReachedStep_changes _)
  | lampFeedbackChange dt lamp current => exact settled _ rfl (lampFeedbackChangeStep_changes _ _ _)
  | lampDisagreementExpiry dt lamp => exact settled _ rfl (lampDisagreementExpiryStep_changes _ _)
  | headWaitLimit dt => exact settled _ rfl (headWaitLimitStep_changes _)
  | calibrationLoadBegin dt => exact settled _ rfl (calibrationLoadBeginStep_changes _)
  | calibrationRetry dt => exact settled _ rfl (calibrationRetryStep_changes _)
  | calibrationLoadEnd dt record =>
    exact settled _ rfl (calibrationLoadEndStep_changes (.inl ⟨dt, record, rfl⟩) _ _)
  | calMemoryTimeout dt => exact settled _ rfl (calMemoryTimeoutStep_changes (.inr ⟨dt, rfl⟩) _)
  | statusPage dt => exact settled _ rfl (statusPageStep_changes _)
  | sense dt => exact settled _ rfl (senseStep_changes _)
  | reload dt => exact settled _ rfl (reloadStep_changes _)
  | readVehicle dt => exact settled _ rfl (readVehicleStep_changes _)
  | clearCounters dt => exact settled _ rfl (clearCountersStep_changes ⟨dt, rfl⟩ _)
  | sosReceived dt us => exact settled _ rfl (sosReceivedStep_changes _ _)
  | responseSeen dt us => exact settled _ rfl (responseSeenStep_changes _ _)

end Sys2Proof.Machine
end

section
/-! PROOFS. The block as a whole: time, outputs, modes, counters and the invariants that every step keeps. -/

namespace Sys2Proof.Machine

/-! ## Every command is a change of state and outputs settled -/

theorem exec_done (c : Instr) (s : State) : ∃ u, exec c s = done u := by
  cases c <;> exact ⟨_, rfl⟩

theorem exec_restart_due {s : State} (h : s.handler.due = some .restart) (pins : Straps) :
    exec (.restart pins) s = done (s.restarted pins) := by
  show done (restartStep s pins) = _
  simp [restartStep, h]

theorem exec_restart_undue {s : State} (h : s.handler.due ≠ some .restart) (pins : Straps) :
    exec (.restart pins) s = done s := by
  show done (restartStep s pins) = _
  simp [restartStep, h]

/-- What a start leaves, and what every change keeps, every command keeps. -/
theorem exec_keeps {P : State → Prop} {c : Instr} (time : ∀ s n, P s → P { s with now := n })
    (started : ∀ s pins, P s → P (s.started pins false)) (restarted : ∀ s pins, P s → P (s.restarted pins))
    (change : ∀ s t, Change c s t → P s → P t) {s t : State} (h : exec c s = .next t) (hs : P s) : P t := by
  have settled : ∀ u : State, exec c s = done u → P u → P t := by
    intro u e hu
    rw [e, done_eq] at h
    cases h
    exact (settle_changes c u).keeps change hu
  by_cases hc : IsStart c
  · rcases hc with ⟨pins, rfl⟩ | ⟨pins, rfl⟩
    · exact settled _ rfl (started s pins hs)
    · by_cases hd : s.handler.due = some .restart
      · exact settled _ (exec_restart_due hd pins) (restarted s pins hs)
      · exact settled _ (exec_restart_undue hd pins) hs
  · exact (exec_changes hc h).keeps change (time s _ hs)

/-- What does not look at time or at the queue, and every command keeps, every step keeps. -/
theorem step_keeps {P : State → Prop} (time : ∀ s n, P s → P { s with now := n })
    (queue : ∀ s q, P s → P { s with pending := q })
    (command : ∀ c s t, exec c s = .next t → P s → P t) (s t : State) (hs : P s) (h : step s = .next t) :
    P t := by
  unfold step at h
  split at h
  · cases h; exact time s _ hs
  · exact command _ _ _ h (queue s _ hs)

/-! ## Time, outputs, modes, straps and counters -/

/-- Settles O1: it is the definition of a step. -/
theorem stepRunsTheFrontCommand : Obligations.StepRunsTheFrontCommand := by
  intro s c rest h
  unfold step
  rw [h]

theorem change_time {c : Instr} {n : Time} {q : List Instr} (s t : State) (h : Change c s t)
    (hs : s.now = n ∧ s.pending = q) : t.now = n ∧ t.pending = q := by
  cases h <;> exact hs

/-- Settles O2: no change touches time or the queue, and a start sets both as it says. -/
theorem timeAndQueueUnderEveryCommand : Obligations.TimeAndQueueUnderEveryCommand := by
  intro c s t h
  by_cases hc : IsStart c
  · rcases hc with ⟨pins, rfl⟩ | ⟨pins, rfl⟩
    · have e : t = (s.started pins false).settle := Host.Outcome.next.inj h.symm
      subst e
      exact ⟨rfl, fun _ _ => rfl, nofun, nofun, fun hn => absurd (.inl ⟨pins, rfl⟩) hn⟩
    · by_cases hd : s.handler.due = some .restart
      · rw [exec_restart_due hd, done_eq] at h
        cases h
        exact ⟨rfl, nofun, fun _ _ _ => rfl, fun _ _ hn => absurd hd hn,
          fun hn => absurd (.inr ⟨pins, rfl⟩) hn⟩
      · rw [exec_restart_undue hd, done_eq] at h
        cases h
        exact ⟨rfl, nofun, fun _ _ hn => absurd hn hd, fun _ _ _ => rfl,
          fun hn => absurd (.inr ⟨pins, rfl⟩) hn⟩
  · obtain ⟨hnow, hq⟩ := (exec_changes hc h).keeps change_time ⟨rfl, rfl⟩
    exact ⟨hq, fun pins e => absurd (.inl ⟨pins, e⟩) hc, fun pins e => absurd (.inr ⟨pins, e⟩) hc,
      fun pins e => absurd (.inr ⟨pins, e⟩) hc, fun _ => hnow⟩

theorem coordinated_iff (s : State) : s.coordinated = true ↔
    s.control.mode = .active ∧ s.control.calibration.isSome ∧ s.port.head = .ready
      ∧ s.line.state = .normal := by
  simp [State.coordinated, and_assoc]

theorem settle_outputsFollow (u : State) : u.settle.OutputsFollow where
  closed := by rw [settle_closed_command]; simp [State.closedCommand]; rfl
  divert := by
    rw [settle_divert_command, ← coordinated_iff]
    have : u.settle.coordinated = u.coordinated := rfl
    simp [State.divertCommand, State.divertAll, this, or_assoc]
    rfl
  fault := by rw [settle_fault]; simp [State.faultOutput]; rfl

/-- Settles O3: every command ends with its outputs settled. -/
theorem outputsFollowConditions : Obligations.OutputsFollowConditions := by
  intro c s t h
  obtain ⟨u, hu⟩ := exec_done c s
  rw [hu, done_eq] at h
  cases h
  exact settle_outputsFollow u

theorem change_staysFailed {c : Instr} (hc : ¬ EndsLoad c) (s t : State) (h : Change c s t)
    (hs : s.control.mode = .failed ∧ s.control.load = none) :
    t.control.mode = .failed ∧ t.control.load = none := by
  obtain ⟨hm, hl⟩ := hs
  cases h with
  | control k mode load => exact ⟨mode.trans hm, load.trans hl⟩
  | mode m l from_ => exact absurd hm (from_.resolve_right hc)
  | load l from_ => exact absurd hm from_
  | loadEnd cmd => exact absurd cmd hc
  | failed => exact ⟨rfl, hl⟩
  | _ => exact ⟨hm, hl⟩

/-- Without a load in flight a load's end changes nothing but time and outputs. -/
theorem exec_endsLoad_idle {c : Instr} {s : State} (hc : EndsLoad c) (hl : s.control.load = none) :
    exec c s = done (s.advance (elapsed c)) := by
  rcases hc with ⟨dt, record, rfl⟩ | ⟨dt, rfl⟩
  · show done (calibrationLoadEndStep _ _) = _
    simp [calibrationLoadEndStep, hl, elapsed]
  · show done (calMemoryTimeoutStep _) = _
    simp [calMemoryTimeoutStep, hl, elapsed]

/-- Settles O4: no change leaves FAILED or begins a load there, and without a load none ends. -/
theorem onlyAStartLeavesFailed : Obligations.OnlyAStartLeavesFailed := by
  intro c s t hc h hm hl
  by_cases he : EndsLoad c
  · rw [exec_endsLoad_idle he hl, done_eq] at h
    cases h
    exact ⟨hm, hl⟩
  · exact (exec_changes hc h).keeps (change_staysFailed he) ⟨hm, hl⟩

theorem change_straps {c : Instr} {p : Straps} (s t : State) (h : Change c s t)
    (hs : s.control.straps = p) : t.control.straps = p := by
  cases h with
  | control k _ _ straps => exact straps.trans hs
  | loadEnd _ k _ straps => exact straps.trans hs
  | _ => exact hs

theorem change_calibration {c : Instr} (hc : ¬ EndsLoad c) {k : Option Calibration} (s t : State)
    (h : Change c s t) (hs : s.control.calibration = k) : t.control.calibration = k := by
  cases h with
  | control _ _ _ _ calibration => exact calibration.trans hs
  | loadEnd cmd => exact absurd cmd hc
  | _ => exact hs

/-- Settles O5: no change is one of the straps, and only a load's end is one of the calibration. -/
theorem strapsAndCalibrationChangeOnlyWhereStated :
    Obligations.StrapsAndCalibrationChangeOnlyWhereStated := by
  intro c s t hc h
  have hchanges := exec_changes hc h
  refine ⟨hchanges.keeps change_straps rfl, fun hend htimeout => ?_⟩
  refine hchanges.keeps (change_calibration ?_) rfl
  rintro (⟨dt, record, rfl⟩ | ⟨dt, rfl⟩)
  · exact hend dt record rfl
  · exact htimeout dt rfl

theorem change_counters {c : Instr} (hc : ¬ ∃ dt, c = .clearCounters dt) {k : Counters} (s t : State)
    (h : Change c s t) (hs : k.AtMost s.counters) : k.AtMost t.counters := by
  cases h with
  | counters k' up => exact hs.trans (up.resolve_right hc)
  | _ => exact hs

/-- Settles O6: no change but CLEAR_COUNTERS's own lowers a counter, and a RESTART keeps them. -/
theorem countersFallOnlyWhereCleared : Obligations.CountersFallOnlyWhereCleared := by
  intro c s t hp hclear h
  have hcl : ¬ ∃ dt, c = .clearCounters dt := fun ⟨dt, e⟩ => hclear dt e
  have key : s.counters.AtMost t.counters := by
    by_cases hc : IsStart c
    · rcases hc with ⟨pins, e⟩ | ⟨pins, rfl⟩
      · exact absurd e (hp pins)
      · have hk : t.counters = s.counters := by
          by_cases hd : s.handler.due = some .restart
          · rw [exec_restart_due hd, done_eq] at h; cases h; rfl
          · rw [exec_restart_undue hd, done_eq] at h; cases h; rfl
        rw [hk]
        exact .refl _
    · exact (exec_changes hc h).keeps (change_counters hcl) (.refl _)
  exact ⟨key.framesSent, key.arbitrationLosses, key.bitErrors, key.noEchoFaults, key.crcErrors,
    key.formatErrors, key.framingErrors, key.holdEvents, key.claimsOffered, key.claimsGranted,
    key.objectionsSent, key.unknownDepartures, key.sampleCrcErrors, key.sampleGaps, key.vehiclesClosed,
    key.txDrops⟩

/-! ## The view between frames -/

theorem SpanTable.KeptFrom.refl (a : SpanTable) : a.KeptFrom a := fun e he => ⟨e, he, rfl⟩

theorem SpanTable.KeptFrom.trans {a b d : SpanTable} (h : d.KeptFrom b) (k : b.KeptFrom a) :
    d.KeptFrom a := by
  intro e he
  obtain ⟨e', he', e1⟩ := h e he
  obtain ⟨e'', he'', e2⟩ := k e' he'
  refine ⟨e'', he'', ?_⟩
  rw [e1, e2]

theorem change_view {c : Instr} (hc : ¬ ∃ dt levels, c = .endOfFrame dt levels) {v : SpanTable}
    (s t : State) (h : Change c s t) (hs : s.span.KeptFrom v) : t.span.KeptFrom v := by
  cases h with
  | span t' _ kept => exact kept.trans hs
  | grant cmd => exact absurd cmd hc
  | _ => exact hs

/-- Settles O7: a grant is the only change that adds an entry, and only the end of a frame grants. -/
theorem viewGrowsOnlyAtEndOfFrame : Obligations.ViewGrowsOnlyAtEndOfFrame := by
  intro c s t hc h
  have hcl : ¬ ∃ dt levels, c = .endOfFrame dt levels := fun ⟨dt, levels, e⟩ => hc dt levels e
  refine exec_keeps (P := fun u => u.span.KeptFrom s.span) (fun _ _ hu => hu) ?_ ?_ (change_view hcl) h
    (.refl _)
  · exact fun _ _ _ e he => absurd he (by simp [State.started, State.reset, SpanTable.reset])
  · exact fun _ _ _ e he => absurd he
      (by simp [State.restarted, State.started, State.reset, SpanTable.reset])

/-! ## Capacities (00, section 7) -/

theorem withinCapacity_iff (s : State) : s.WithinCapacity ↔
    s.port.Within ∧ s.detector.queue.length ≤ pulseQueueCapacity ∧ s.former.Within ∧ s.assembler.Within
      ∧ s.admission.claims.length ≤ claimCapacity ∧ s.span.entries.length ≤ spanCapacity
      ∧ s.line.Within := by
  constructor
  · intro h
    exact ⟨⟨h.fifo, h.fifoAbsent, h.readyRun⟩, h.pulseQueue, ⟨h.pendingA, h.waitingB⟩,
      ⟨h.openList, h.closedQueue, h.outbound, h.history⟩, h.claims, h.span, h.txq, h.noEchoRun⟩
  · rintro ⟨⟨hfifo, habsent, hrun⟩, hpulse, ⟨hpending, hwaiting⟩, ⟨hopen, hclosed, hout, hring⟩, hclaims,
      hspan, htxq, hecho⟩
    exact ⟨hfifo, habsent, hrun, hpulse, hpending, hwaiting, hopen, hclosed, hout, hring, hclaims, hspan,
      htxq, hecho⟩

theorem change_withinCapacity {c : Instr} (s t : State) (h : Change c s t) (hs : s.WithinCapacity) :
    t.WithinCapacity := by
  rw [withinCapacity_iff] at *
  obtain ⟨hport, hpulse, hformer, hasm, hclaims, hspan, hline⟩ := hs
  cases h with
  | port p within => exact ⟨within hport, hpulse, hformer, hasm, hclaims, hspan, hline⟩
  | detector d within => exact ⟨hport, within hpulse, hformer, hasm, hclaims, hspan, hline⟩
  | former f within => exact ⟨hport, hpulse, within hformer, hasm, hclaims, hspan, hline⟩
  | assembler a within => exact ⟨hport, hpulse, hformer, within hasm, hclaims, hspan, hline⟩
  | admission a within => exact ⟨hport, hpulse, hformer, hasm, within hclaims, hspan, hline⟩
  | span v _ _ within => exact ⟨hport, hpulse, hformer, hasm, hclaims, within.trans hspan, hline⟩
  | grant _ _ v _ within => exact ⟨hport, hpulse, hformer, hasm, hclaims, within, hline⟩
  | line l within => exact ⟨hport, hpulse, hformer, hasm, hclaims, hspan, within hline⟩
  | _ => exact ⟨hport, hpulse, hformer, hasm, hclaims, hspan, hline⟩

/-- A state with power-on values in every collection but the ring is within capacity. -/
theorem withinCapacity_of_reset {s : State} (hp : s.port = .reset) (hd : s.detector = .reset)
    (hf : s.former = .reset) (ha : s.assembler = { Assembler.reset with
      history := s.assembler.history, tagCounter := s.assembler.tagCounter })
    (hh : s.assembler.history.length ≤ historyCapacity) (hc : s.admission = .reset)
    (hv : s.span.entries = []) (hl : s.line = .reset) : s.WithinCapacity := by
  rw [withinCapacity_iff, hp, hd, hf, hc, hv, hl]
  refine ⟨⟨by decide, fun _ => rfl, by decide⟩, by decide, ⟨by decide, by decide⟩, ?_, by decide,
    by decide, by decide, by decide⟩
  rw [ha]
  exact ⟨nofun, Nat.zero_le _, fun h => absurd rfl h, hh⟩

/-- Settles O9: every change keeps every collection within its capacity. -/
theorem everyStepKeepsCapacities : Obligations.EveryStepKeepsCapacities := by
  refine step_keeps (fun s n h => ⟨h.1, h.2, h.3, h.4, h.5, h.6, h.7, h.8, h.9, h.10, h.11, h.12, h.13, h.14⟩)
    (fun s q h => ⟨h.1, h.2, h.3, h.4, h.5, h.6, h.7, h.8, h.9, h.10, h.11, h.12, h.13, h.14⟩) ?_
  intro c s t h
  refine exec_keeps (fun s n h => ?_) (fun s pins _ => ?_) (fun s pins hs => ?_) change_withinCapacity h
  · exact ⟨h.1, h.2, h.3, h.4, h.5, h.6, h.7, h.8, h.9, h.10, h.11, h.12, h.13, h.14⟩
  · exact withinCapacity_of_reset rfl rfl rfl rfl (Nat.zero_le _) rfl rfl rfl
  · exact withinCapacity_of_reset rfl rfl rfl rfl hs.history rfl rfl rfl

/-! ## The view (06 R91, R93, R109) -/

theorem change_spanSound {c : Instr} (s t : State) (h : Change c s t) (hs : s.span.Sound) :
    t.span.Sound := by
  cases h with
  | span v sound => exact sound hs
  | grant _ _ v sound => exact sound hs
  | _ => exact hs

/-- A station that is not at its self-test keeps nothing in the table while FAILED. -/
theorem change_failedEmpty {c : Instr} (hc : ¬ ∃ dt f, c = .selfTest dt f) (s t : State)
    (h : Change c s t) (hs : s.control.mode = .failed → s.span.entries = []) :
    t.control.mode = .failed → t.span.entries = [] := by
  intro hm
  cases h with
  | control k mode => exact hs (mode ▸ hm)
  | mode m l _ to_ => exact absurd hm to_
  | loadEnd _ k mode => exact hs (mode ▸ hm)
  | failed cmd => exact absurd cmd hc
  | span v _ kept =>
    refine List.eq_nil_iff_forall_not_mem.2 fun e he => ?_
    obtain ⟨e', he', _⟩ := kept e he
    rw [hs hm] at he'
    exact absurd he' (by simp)
  | grant _ mode => exact absurd hm mode
  | _ => exact hs hm

@[simp] theorem putFrame_span (s : State) (k u p) : (s.putFrame k u p).1.span = s.span := by
  unfold State.putFrame; dsimp only; repeat' split
  all_goals rfl

@[simp] theorem putFrame_holdDemand (s : State) (k u p) :
    (s.putFrame k u p).1.line.holdDemand = s.line.holdDemand := by
  unfold State.putFrame; dsimp only; repeat' split
  all_goals rfl

/-- FAILED is entered with an empty table and no HOLD demand (10 R155; 06 R109; 09 R144). -/
theorem enterFailed_empties (s : State) :
    s.enterFailed.span = s.failing.span.clear ∧ s.enterFailed.line.holdDemand = false := by
  rw [enterFailed_eq]
  split
  · exact ⟨rfl, rfl⟩
  · exact ⟨putFrame_span _ _ _ _, putFrame_holdDemand _ _ _ _⟩

/-- A self-test that does not lead to FAILED leaves the mode, the table and the line as they are. -/
theorem selfTestStep_cases (s : State) (f : SelfTestFailures) :
    (∃ u, selfTestStep s f = State.enterFailed u)
      ∨ ((selfTestStep s f).control.mode = s.control.mode ∧ (selfTestStep s f).span = s.span
        ∧ (selfTestStep s f).line = s.line) := by
  unfold selfTestStep
  split
  · dsimp only
    split
    · exact .inl ⟨_, rfl⟩
    · exact .inr ⟨rfl, rfl, rfl⟩
  · exact .inr ⟨rfl, rfl, rfl⟩

theorem exec_failedEmpty {c : Instr} {s t : State} (h : exec c s = .next t)
    (hs : s.control.mode = .failed → s.span.entries = []) :
    t.control.mode = .failed → t.span.entries = [] := by
  by_cases hc : ∃ dt f, c = .selfTest dt f
  · obtain ⟨dt, f, rfl⟩ := hc
    have e : t = (selfTestStep (s.advance dt) f).settle := Host.Outcome.next.inj h.symm
    subst e
    show (selfTestStep (s.advance dt) f).control.mode = .failed →
      (selfTestStep (s.advance dt) f).span.entries = []
    rcases selfTestStep_cases (s.advance dt) f with ⟨u, hu⟩ | ⟨hm, hv, _⟩
    · rw [hu, (enterFailed_empties u).1]
      exact fun _ => rfl
    · rw [hm, hv]
      exact hs
  · exact exec_keeps (P := fun u => u.control.mode = .failed → u.span.entries = []) (fun _ _ hu => hu)
      (fun _ _ _ _ => rfl) (fun _ _ _ _ => rfl) (change_failedEmpty hc) h hs

theorem exec_spanSound {c : Instr} {s t : State} (h : exec c s = .next t) (hs : s.span.Sound) :
    t.span.Sound := by
  refine exec_keeps (P := fun u => u.span.Sound) (fun _ _ hu => hu) (fun _ _ _ => ?_) (fun _ _ _ => ?_)
    change_spanSound h hs
  · exact ⟨List.nodup_nil, rfl, rfl⟩
  · exact ⟨List.nodup_nil, rfl, rfl⟩

/-- Settles O10: every change keeps the keys, the sum and the count; entry to FAILED empties the table. -/
theorem everyStepKeepsTheViewSound : Obligations.EveryStepKeepsTheViewSound := by
  refine step_keeps (fun s n h => ⟨h.1, h.2, h.3, h.4⟩) (fun s q h => ⟨h.1, h.2, h.3, h.4⟩) ?_
  intro c s t h hs
  obtain ⟨hd, hsum, hn⟩ := exec_spanSound h ⟨hs.distinct, hs.sum, hs.count⟩
  exact ⟨hd, hsum, hn, exec_failedEmpty h hs.failed⟩

/-! ## Closure (05 R89; 09 R144) -/

/-- The tags of the claims held. -/
def State.claimTags (s : State) : List Tag := s.admission.claims.map fun d => d.vehicle.tag

theorem preCheck_claimTags (s : State) : s.preCheck.claimTags = s.claimTags := by
  unfold State.preCheck
  split
  · rfl
  · next d l hd =>
    have offered : ((s.putFrame .claim .ordinary (claimPayload d.vehicle d.dwell s.spanEnd)).1.setHeadClaim
        { d with state := .offeredQueued }).claimTags = s.claimTags := by
      simp [State.claimTags, State.setHeadClaim, hd]
    split
    · dsimp only
      split
      · exact offered
      · rw [← offered, State.claimTags, (replayAfter_keeps _ _).1]
        rfl
    · rfl

theorem enqueue_claimTags (s : State) (k : FrameKind) (u : FrameUse) (p : List Byte) :
    (s.enqueue k u p).claimTags = s.claimTags := by
  have put : (s.putFrame k u p).1.claimTags = s.claimTags := by simp [State.claimTags]
  unfold State.enqueue
  dsimp only
  split
  · exact put
  · split
    · rw [preCheck_claimTags, put]
    · rw [State.claimTags, (replayAfter_keeps _ _).1, ← State.claimTags, preCheck_claimTags, put]

theorem finishClaim_claimTags (s : State) (d : Claim) (o : VehicleOutcome) :
    (s.finishClaim d o).claimTags = s.claimTags := by
  unfold State.finishClaim State.announce
  dsimp only
  split
  · exact enqueue_claimTags _ _ _ _
  · exact enqueue_claimTags _ _ _ _

/-- The end of a claim takes its tag from those held, and no other. -/
theorem endClaim_claimTags (s : State) (d : Claim) (o : VehicleOutcome) :
    (s.endClaim d o).claimTags = s.claimTags.filter fun tag => tag != d.vehicle.tag := by
  have dropped : (s.dropClaim d.vehicle.tag).claimTags
      = s.claimTags.filter fun tag => tag != d.vehicle.tag := by
    simp only [State.claimTags, State.dropClaim, List.filter_map]
    rfl
  have left : (match d.state with
      | .offeredQueued | .offeredInFlight => (s.dropClaim d.vehicle.tag).removeClaimFrame
      | .waiting | .backoff _ => s.dropClaim d.vehicle.tag).claimTags
      = s.claimTags.filter fun tag => tag != d.vehicle.tag := by
    split <;> exact dropped
  unfold State.endClaim
  cases d.lateMark with
  | none => exact (finishClaim_claimTags _ _ _).trans left
  | some o => exact left

theorem endClaims_claimTags (o : VehicleOutcome) (cs : List Claim) : ∀ s : State,
    (s.endClaims cs o).claimTags
      = s.claimTags.filter fun tag => decide (tag ∉ cs.map fun d => d.vehicle.tag) := by
  induction cs with
  | nil => intro s; simp [endClaims_nil]
  | cons d l ih =>
    intro s
    show ((s.endClaim d o).endClaims l o).claimTags = _
    rw [ih, endClaim_claimTags, List.filter_filter]
    refine List.filter_congr fun tag _ => ?_
    by_cases h : tag = d.vehicle.tag <;> simp [h]

/-- All claims that are held end together (05 R89). -/
theorem endClaims_all (s : State) (o : VehicleOutcome) :
    (s.endClaims s.admission.claims o).admission.claims = [] := by
  have h := endClaims_claimTags o s.admission.claims s
  have hnone : s.claimTags.filter
      (fun tag => decide (tag ∉ s.admission.claims.map fun d => d.vehicle.tag)) = [] :=
    List.filter_eq_nil_iff.2 fun tag ht => by simpa [State.claimTags] using ht
  rw [hnone] at h
  exact List.map_eq_nil_iff.1 h

theorem enterHeld_noClaims {s : State} (h : s.sign.closure ≠ .opened → s.admission.claims = []) :
    s.enterHeld.admission.claims = [] := by
  unfold State.enterHeld
  split
  · next hh => exact h fun ho => by simp [ho] at hh
  · exact endClaims_all _ _

theorem change_noClaims {c : Instr} (hc : ¬ Closes c) (s t : State) (h : Change c s t)
    (hs : s.sign.closure ≠ .opened → s.admission.claims = []) :
    t.sign.closure ≠ .opened → t.admission.claims = [] := by
  intro ht
  cases h with
  | admission a _ placed =>
    rcases placed with ho | hn
    · exact absurd ho ht
    · exact hn (hs ht)
  | sign g closure => exact hs fun ho => ht (closure ho)
  | held cmd => exact absurd cmd hc
  | _ => exact hs ht

theorem closeInDebouncedStep_noClaims {s : State}
    (h : s.sign.closure ≠ .opened → s.admission.claims = []) :
    (closeInDebouncedStep s).sign.closure ≠ .opened → (closeInDebouncedStep s).admission.claims = [] := by
  unfold closeInDebouncedStep
  split
  · split
    · intro _
      unfold State.closeInAsserted
      dsimp only
      split
      · exact enterHeld_noClaims h
      · exact enterHeld_noClaims h
    · unfold State.closeInReleased
      dsimp only
      split
      · next hh =>
        intro _
        exact h fun ho => by simp [ho] at hh
      · exact h
  · exact h

theorem holdTakenStep_noClaims {s : State} (h : s.sign.closure ≠ .opened → s.admission.claims = []) :
    (holdTakenStep s).sign.closure ≠ .opened → (holdTakenStep s).admission.claims = [] := by
  unfold holdTakenStep
  split
  · exact h
  · intro _
    have notClosing : ¬ Closes (.lineIdle 0) := by rintro (⟨_, e⟩ | ⟨_, e⟩) <;> cases e
    have ended := (holdEndsFrame_changes (c := .lineIdle 0) s).keeps (change_noClaims notClosing) h
    exact enterHeld_noClaims ended

theorem exec_noClaims {c : Instr} {s t : State} (h : exec c s = .next t)
    (hs : s.sign.closure ≠ .opened → s.admission.claims = []) :
    t.sign.closure ≠ .opened → t.admission.claims = [] := by
  by_cases hc : Closes c
  · rcases hc with ⟨dt, rfl⟩ | ⟨dt, rfl⟩
    · have e : t = (closeInDebouncedStep (s.advance dt)).settle := Host.Outcome.next.inj h.symm
      subst e
      exact closeInDebouncedStep_noClaims (s := s.advance dt) hs
    · have e : t = (holdTakenStep (s.advance dt)).settle := Host.Outcome.next.inj h.symm
      subst e
      exact holdTakenStep_noClaims (s := s.advance dt) hs
  · exact exec_keeps (P := fun u => u.sign.closure ≠ .opened → u.admission.claims = [])
      (fun _ _ hu => hu) (fun _ _ _ _ => rfl) (fun _ _ _ _ => rfl) (change_noClaims hc) h hs

theorem change_noDemand {c : Instr} (hc : ¬ ∃ dt f, c = .selfTest dt f) (s t : State)
    (h : Change c s t) (hs : s.control.mode = .failed → s.line.holdDemand = false) :
    t.control.mode = .failed → t.line.holdDemand = false := by
  intro hm
  cases h with
  | control k mode => exact hs (mode ▸ hm)
  | mode m l _ to_ => exact absurd hm to_
  | loadEnd _ k mode => exact hs (mode ▸ hm)
  | failed cmd => exact absurd cmd hc
  | line l _ _ demand =>
    refine Bool.eq_false_iff.2 fun hd => ?_
    have := demand hd hm
    simp [hs hm] at this
  | _ => exact hs hm

theorem exec_noDemand {c : Instr} {s t : State} (h : exec c s = .next t)
    (hs : s.control.mode = .failed → s.line.holdDemand = false) :
    t.control.mode = .failed → t.line.holdDemand = false := by
  by_cases hc : ∃ dt f, c = .selfTest dt f
  · obtain ⟨dt, f, rfl⟩ := hc
    have e : t = (selfTestStep (s.advance dt) f).settle := Host.Outcome.next.inj h.symm
    subst e
    show (selfTestStep (s.advance dt) f).control.mode = .failed →
      (selfTestStep (s.advance dt) f).line.holdDemand = false
    rcases selfTestStep_cases (s.advance dt) f with ⟨u, hu⟩ | ⟨hm, _, hl⟩
    · rw [hu]
      exact fun _ => (enterFailed_empties u).2
    · rw [hm, hl]
      exact hs
  · exact exec_keeps (P := fun u => u.control.mode = .failed → u.line.holdDemand = false)
      (fun _ _ hu => hu) (fun _ _ _ _ => rfl) (fun _ _ _ _ => rfl) (change_noDemand hc) h hs

/-- Settles O11: HELD is entered only with the end of every claim, and FAILED only without a HOLD demand. -/
theorem everyStepKeepsClosureSound : Obligations.EveryStepKeepsClosureSound := by
  refine step_keeps (fun s n h => ⟨h.1, h.2⟩) (fun s q h => ⟨h.1, h.2⟩) ?_
  exact fun c s t h hs => ⟨exec_noClaims h hs.noClaims, exec_noDemand h hs.noDemand⟩

/-! ## The transmit queue (08 R135, R136) -/

theorem change_ordered {c : Instr} (s t : State) (h : Change c s t) (hs : s.line.Ordered) :
    t.line.Ordered := by
  cases h with
  | line l _ ordered => exact ordered hs
  | _ => exact hs

theorem insertFrame_perm (f : TxFrame) (q : List TxFrame) : (insertFrame f q).Perm (f :: q) := by
  induction q with
  | nil => rfl
  | cons g l ih =>
    unfold insertFrame
    split
    · rfl
    · exact (ih.cons g).trans (.swap f g l)

/-- In an ordered queue a frame joins behind all of its own kind. -/
theorem insertFrame_filter_kind (f : TxFrame) {q : List TxFrame}
    (h : q.Pairwise fun a b => a.kind.code ≤ b.kind.code) (k : FrameKind) :
    (insertFrame f q).filter (fun g => g.kind = k) =
      q.filter (fun g => g.kind = k) ++ if f.kind = k then [f] else [] := by
  induction q with
  | nil => by_cases hk : f.kind = k <;> simp [insertFrame, hk]
  | cons g l ih =>
    obtain ⟨hg, hl⟩ := List.pairwise_cons.1 h
    unfold insertFrame
    split
    · next hlt =>
      by_cases hk : f.kind = k
      · have none_left : (g :: l).filter (fun x => decide (x.kind = k)) = [] := by
          refine List.filter_eq_nil_iff.2 fun x hx => ?_
          have hle : g.kind.code ≤ x.kind.code := by
            rcases List.mem_cons.1 hx with rfl | hx
            · exact Nat.le_refl _
            · exact hg x hx
          have hne : x.kind ≠ k := fun e => by rw [← hk] at e; rw [e] at hle; omega
          simpa using hne
        rw [List.filter_cons_of_pos (by simpa using hk), none_left]
        simp [hk]
      · rw [List.filter_cons_of_neg (by simpa using hk)]
        simp [hk]
    · by_cases hk : g.kind = k <;> simp [hk, ih hl]

theorem droppable_iff (k : FrameKind) : k.droppable = true ↔ k = .verdict ∨ k = .report := by
  cases k <;> simp [FrameKind.droppable]

theorem givesWay_iff (l : LineControl) (g : TxFrame) : l.givesWay g = true ↔
    (g.kind = .verdict ∨ g.kind = .report)
      ∧ ∀ x, l.inFlight = some x → x.frame.arrival ≠ g.arrival := by
  simp only [LineControl.givesWay, Bool.and_eq_true, droppable_iff, LineControl.flying]
  cases l.inFlight <;> simp

/-- Settles O49: the order by every change, the place of a frame by induction on the queue, and the full
queue by the two ways in which a frame is put into it. -/
theorem transmitQueueIsOrderedByKind : Obligations.TransmitQueueIsOrderedByKind := by
  refine ⟨?order, ?place, ?full⟩
  case order =>
    refine step_keeps (P := fun s => s.line.Ordered) (fun _ _ h => h) (fun _ _ h => h) ?_
    intro c s t h
    exact exec_keeps (fun _ _ h => h) (fun _ _ _ => List.Pairwise.nil) (fun _ _ _ => List.Pairwise.nil)
      change_ordered h
  case place =>
    exact fun f q h => ⟨insertFrame_ordered f h, insertFrame_perm f q, insertFrame_filter_kind f h⟩
  case full =>
    intro s kind use payload hfull
    refine ⟨fun hdiscard => ?_, fun d hd hv hr hway hyoungest => ?_⟩
    · refine putFrame_discarded hfull ?_
      rcases hdiscard with hk | hk | hnone
      · exact .inl ((droppable_iff kind).2 (.inl hk))
      · exact .inl ((droppable_iff kind).2 (.inr hk))
      · refine .inr (youngestDroppable_none fun g hg => Bool.eq_false_iff.2 fun hw => ?_)
        exact hnone g hg ((givesWay_iff _ _).1 hw)
    · have hkind : kind.droppable = false :=
        Bool.eq_false_iff.2 fun h => ((droppable_iff kind).1 h).elim hv hr
      have hsome : s.line.youngestDroppable = some d :=
        youngestDroppable_some hd ((givesWay_iff _ _).2 hway) fun g hg hw =>
          hyoungest g hg ((givesWay_iff _ _).1 hw)
      exact ⟨s.frameOf kind use payload, rfl, rfl, rfl, putFrame_displaces hfull hkind hsome⟩

/-! ## Reset -/

/-- Settles O8: every collection is empty at reset, and the outputs have their power-on values. -/
theorem resetMeetsEveryInvariant : Obligations.ResetMeetsEveryInvariant := by
  refine ⟨?capacity, ?view, ?closure, List.Pairwise.nil, ?outputs⟩
  case capacity => exact withinCapacity_of_reset rfl rfl rfl rfl (Nat.zero_le _) rfl rfl rfl
  case view => exact ⟨List.nodup_nil, rfl, rfl, fun _ => rfl⟩
  case closure => exact ⟨fun _ => rfl, fun _ => rfl⟩
  case outputs => exact ⟨by decide, by decide, by decide⟩

end Sys2Proof.Machine
end

section
/-! PROOFS. The Sample Port: accepted and discarded frames, the resync index and the ready run (01). -/

namespace Sys2Proof.Machine

/-! ## What a command leaves unchanged -/

/-- Settling the outputs of a state that differs from `s` only in time and in the parts listed. -/
theorem elsewhere_of_same {changed : List Part} {dt : Time} {s u : State}
    (hn : u.now = s.now + dt := by rfl) (hq : u.pending = s.pending := by rfl)
    (h : ∀ p, p ∉ changed → p.same s u := by intro p hp; cases p <;> simp at hp <;> rfl) :
    Elsewhere changed dt s u.settle := elsewhere_settle hn hq h

/-- What a command leaves of its own part of Station Control, all but the FAULT output. -/
theorem control_same_settle {s u : State} (h : u.control = s.control := by rfl) :
    Part.control.same s u.settle := by simp only [Part.same, settle_control, h]

/-! ## The judgement of a frame (R3) -/

theorem judge_normal {g f : SampleFrame} (h : (f.sequence - g.sequence).toNat = 1) :
    judge (some g) f = .normal := by simp [judge, h]

theorem judge_gap {g f : SampleFrame} (h : 2 ≤ (f.sequence - g.sequence).toNat)
    (h' : (f.sequence - g.sequence).toNat ≤ 64) :
    judge (some g) f = .gap ((f.sequence - g.sequence).toNat - 1) := by
  have : (f.sequence - g.sequence).toNat ≠ 1 := by omega
  unfold judge
  dsimp only
  rw [if_neg this, if_pos ⟨h, h'⟩]

theorem judge_duplicate_iff {last : Option SampleFrame} {f : SampleFrame} :
    judge last f = .duplicate ↔ last = some f := by
  unfold judge
  cases last with
  | none => simp
  | some g =>
    by_cases e : f = g
    · subst e; simp
    · have e' : g ≠ f := fun h => e h.symm
      dsimp only
      split
      · simp [e']
      · split <;> simp [e']

theorem judge_resync {last : Option SampleFrame} {f : SampleFrame}
    (h : ∀ g, last = some g → f ≠ g ∧ ((f.sequence - g.sequence).toNat = 0
      ∨ 64 < (f.sequence - g.sequence).toNat)) : judge last f = .resync := by
  cases last with
  | none => rfl
  | some g =>
    obtain ⟨hne, hd⟩ := h g rfl
    have h1 : (f.sequence - g.sequence).toNat ≠ 1 := by omega
    have h2 : ¬ (2 ≤ (f.sequence - g.sequence).toNat ∧ (f.sequence - g.sequence).toNat ≤ 64) := by omega
    unfold judge
    dsimp only
    rw [if_neg h1, if_neg h2, if_neg hne]

/-! ## A frame at the port -/

theorem sampleFrameStep_bad {s : State} {bytes : List Byte} (hs : sampleFrameSane bytes)
    (hg : ¬ sampleFrameGood bytes) : sampleFrameStep s bytes = s.discardSample := by
  simp [sampleFrameStep, hs, hg]

theorem sampleFrameStep_ready {s : State} {bytes : List Byte} (hs : sampleFrameSane bytes)
    (hg : sampleFrameGood bytes) (hr : s.port.head = .ready) :
    sampleFrameStep s bytes = s.judgeFrame (sampleFrameOf bytes) := by
  simp [sampleFrameStep, hs, hg, hr]

theorem sampleFrameStep_absent {s : State} {bytes : List Byte} (hs : sampleFrameSane bytes)
    (hg : sampleFrameGood bytes) (ha : s.port.head = .absent) :
    sampleFrameStep s bytes = s.runFrame (sampleFrameOf bytes) := by
  simp [sampleFrameStep, hs, hg, ha]

theorem acceptFrame_eq (s : State) (f : SampleFrame) (index : Index) (gaps : Nat) (mark : EntryMark)
    (counted : Bool) :
    s.acceptFrame f index gaps mark counted = { s with
      port := { s.port with
        fifo := s.port.fifo ++ [⟨index, f.reading, gaps, s.port.hold.getD f.reading, mark⟩]
        lastGood := some f, hold := some f.reading, lastIndex := some index, overrun := false }
      counters := { s.counters with sampleGaps :=
        if counted && !s.port.overrun then bump s.counters.sampleGaps else s.counters.sampleGaps } } := by
  unfold State.acceptFrame
  dsimp only
  split <;> rfl

theorem judgeFrame_duplicate {s : State} {f : SampleFrame} (h : s.port.lastGood = some f) :
    s.judgeFrame f = s := by
  unfold State.judgeFrame
  rw [judge_duplicate_iff.2 h]

theorem judgeFrame_overrun {s : State} {f : SampleFrame} (h : s.port.lastGood ≠ some f)
    (hl : 16 ≤ s.port.fifo.length) : s.judgeFrame f = s.restartHeadTimer.overrunDiscard := by
  have hj : judge s.port.lastGood f ≠ .duplicate := fun e => h (judge_duplicate_iff.1 e)
  unfold State.judgeFrame
  dsimp only
  split
  · next e => exact absurd e hj
  · exact if_pos hl

/-- A frame that is not a duplicate and finds room is accepted by its judgement (R4 to R7). -/
theorem judgeFrame_room {s : State} {f : SampleFrame} (hl : s.port.fifo.length < 16) :
    s.judgeFrame f = match judge s.port.lastGood f with
      | .duplicate => s
      | .normal => s.restartHeadTimer.acceptFrame f (s.port.lastIndex.getD 0 + 1) 0 .plain false
      | .gap g =>
        s.restartHeadTimer.acceptFrame f (s.port.lastIndex.getD 0 + span32 (g + 1)) g .plain true
      | .resync => s.restartHeadTimer.acceptFrame f (resyncIndex s.port.lastIndex f.sequence) 0 .resync true := by
  have hl' : ¬ fifoCapacity ≤ s.restartHeadTimer.port.fifo.length := Nat.not_le.2 hl
  unfold State.judgeFrame
  dsimp only
  cases judge s.port.lastGood f with
  | duplicate => rfl
  | normal => dsimp only; rw [if_neg hl']
  | gap g => dsimp only; rw [if_neg hl']
  | resync => dsimp only; rw [if_neg hl']

/-- Settles O12: a difference of 1 is the next frame, one of 2 to 64 a gap, and both are accepted. -/
theorem normalAndGapFramesAreAccepted : Obligations.NormalAndGapFramesAreAccepted := by
  intro s dt bytes f g last hold d hsane hgood hf hready hlast hindex hhold hroom hd hlo hhi
  -- Both judgements accept the frame with d − 1 gaps, counted unless d is 1.
  have hjudged : (s.advance dt).judgeFrame f = (s.advance dt).restartHeadTimer.acceptFrame f
      (last + BitVec.ofNat 32 d) (d - 1) .plain (decide (d ≠ 1)) := by
    rw [judgeFrame_room (s := s.advance dt) hroom]
    have hlast' : (s.advance dt).port.lastGood = some g := hlast
    have hindex' : (s.advance dt).port.lastIndex = some last := hindex
    rw [hlast', hindex']
    rcases Nat.lt_or_eq_of_le hlo with h | h
    · rw [judge_gap (by omega) (by omega), ← hd]
      have hne : d ≠ 1 := by omega
      simp [hne, span32, Nat.sub_add_cancel hlo]
    · subst h
      rw [judge_normal hd.symm]
      rfl
  refine completes_of_done (u := (s.advance dt).restartHeadTimer.acceptFrame f
      (last + BitVec.ofNat 32 d) (d - 1) .plain (decide (d ≠ 1))) ?_ ?_
  · show done (sampleFrameStep (s.advance dt) bytes) = _
    rw [sampleFrameStep_ready (s := s.advance dt) hsane hgood hready, ← hf, hjudged]
  · rw [acceptFrame_eq]
    refine ⟨?_, ?_, elsewhere_of_same⟩
    · show SamplePort.mk _ _ _ _ _ _ _ _ _ = _
      simp [State.restartHeadTimer, hhold, State.after, span32, headLostTime]
      rfl
    · show Counters.mk .. = _
      by_cases h1 : d = 1 <;> cases ho : s.port.overrun <;> simp [State.restartHeadTimer, h1, ho]

theorem discardSample_completes {c : Instr} {s : State} {dt : Time}
    (h : exec c s = done (s.advance dt).discardSample) :
    Completes c s fun t =>
      t.counters = { s.counters with sampleCrcErrors := bump s.counters.sampleCrcErrors }
      ∧ t.port = (if s.port.head = .absent then { s.port with runLength := 0, runLast := none } else s.port)
      ∧ Elsewhere [.port, .counters] dt s t := by
  refine completes_of_done h ⟨rfl, ?_, elsewhere_of_same⟩
  show (if s.port.head == .absent then s.port.emptyRun else s.port) = _
  cases s.port.head <;> rfl

/-- Settles O13: each kind of frame that is discarded, by the lemma that says how it is judged. -/
theorem discardedFrames : Obligations.DiscardedFrames := by
  refine ⟨?bad, ?partFrame, ?duplicate, ?overrun⟩
  case bad =>
    intro s dt bytes hsane hbad
    refine discardSample_completes ?_
    show done (sampleFrameStep (s.advance dt) bytes) = _
    rw [sampleFrameStep_bad hsane hbad]
  case partFrame =>
    intro s dt part hsane
    refine discardSample_completes ?_
    show done (sampleByteTimeoutStep (s.advance dt) part) = _
    rw [sampleByteTimeoutStep, if_pos hsane]
  case duplicate =>
    intro s dt bytes hsane hgood hready hlast
    refine completes_of_done (u := s.advance dt) ?_ elsewhere_of_same
    show done (sampleFrameStep (s.advance dt) bytes) = _
    rw [sampleFrameStep_ready (s := s.advance dt) hsane hgood hready,
      judgeFrame_duplicate (s := s.advance dt) hlast]
  case overrun =>
    intro s dt bytes hsane hgood hready hlast hfull
    refine completes_of_done (u := (s.advance dt).restartHeadTimer.overrunDiscard) ?_
      ⟨rfl, rfl, elsewhere_of_same⟩
    show done (sampleFrameStep (s.advance dt) bytes) = _
    rw [sampleFrameStep_ready (s := s.advance dt) hsane hgood hready,
      judgeFrame_overrun (s := s.advance dt) hlast hfull.ge]

/-! ## The resync index (R4) -/

/-- The low half of an index. -/
theorem setWidth16_toNat (x : Index) : (x.setWidth 16).toNat = x.toNat % 65536 := by simp

/-- How far a resync index lies beyond the first index after the gap. -/
theorem resyncIndex_sub (last : Index) (sequence : BitVec 16) :
    resyncIndex (some last) sequence =
      last + 65 + (sequence - (last + 65).setWidth 16).setWidth 32 := rfl

/-- Settles O14: beyond the gap the index is the least with its low bits, since less than 2^16 is added. -/
theorem resyncIndexIsTheSmallestBeyondTheGap : Obligations.ResyncIndexIsTheSmallestBeyondTheGap := by
  refine ⟨fun last sequence => ?_, fun _ => rfl⟩
  rw [resyncIndex_sub]
  have hl := last.isLt
  have hs := sequence.isLt
  have low : ∀ x : Index, x.setWidth 16 = sequence ↔ x.toNat % 65536 = sequence.toNat := fun x => by
    rw [← BitVec.toNat_inj, setWidth16_toNat]
  have index : (last + 65 + (sequence - (last + 65).setWidth 16).setWidth 32).toNat
      = ((last.toNat + 65) % 4294967296
          + (65536 - (last.toNat + 65) % 4294967296 % 65536 + sequence.toNat) % 65536) % 4294967296 := by
    simp
  refine ⟨?_, ?_, fun x hx hbeyond => ?_⟩
  · rw [low, index]; omega
  · rw [BitVec.toNat_sub, index]; omega
  · rw [low] at hx
    rw [BitVec.toNat_sub] at hbeyond ⊢
    rw [BitVec.toNat_sub, index]
    have := x.isLt
    omega

/-! ## The ready run (R9) -/

theorem runFrame_eq {s : State} {f : SampleFrame} (h : s.port.runLast ≠ some f) {n : Nat}
    (hn : n = (match s.port.runLast with
      | some g => if f.sequence = g.sequence + 1 then s.port.runLength + 1 else 1
      | none => 1)) :
    s.runFrame f = if 4096 ≤ n then s.headReady f
      else { s with port := { s.port with runLength := n, runLast := some f } } := by
  unfold State.runFrame
  cases e : s.port.runLast with
  | none =>
    rw [e] at hn
    subst hn
    rfl
  | some g =>
    rw [e] at h hn
    have hne : f ≠ g := fun h' => h (by rw [h'])
    dsimp only at hn ⊢
    rw [if_neg hne, ← hn]
    rfl

theorem headReady_control (s : State) (f : SampleFrame) : (s.headReady f).control = { s.control with
    mask := { s.control.mask with head := false }
    startStep := if s.control.startStep = .headWait then .calibration else s.control.startStep } := by
  simp [State.headReady, State.restartHeadTimer]

theorem runFrame_duplicate {s : State} {f : SampleFrame} (h : s.port.runLast = some f) :
    s.runFrame f = s := by simp [State.runFrame, h]

/-- Settles O15: a READY head by the judgement, an ABSENT one by the length of its run. -/
theorem resyncAndReadyRunFramesAreAccepted : Obligations.ResyncAndReadyRunFramesAreAccepted := by
  intro s dt bytes f hsane hgood hf
  refine ⟨fun hready hroom hresync => ?_, fun n habsent hnew hn => ⟨fun hlt => ?_, fun hle => ?_⟩,
    fun habsent hsame => ?_⟩
  · refine completes_of_done (u := (s.advance dt).restartHeadTimer.acceptFrame f
      (resyncIndex s.port.lastIndex f.sequence) 0 .resync true) ?_ ?_
    · show done (sampleFrameStep (s.advance dt) bytes) = _
      rw [sampleFrameStep_ready (s := s.advance dt) hsane hgood hready, ← hf,
        judgeFrame_room (s := s.advance dt) hroom, State.advance_port, judge_resync hresync]
    · rw [acceptFrame_eq]
      refine ⟨rfl, ?_, elsewhere_of_same⟩
      show Counters.mk .. = _
      cases ho : s.port.overrun <;> simp [State.restartHeadTimer, ho]
  · refine completes_of_done (u := { s.advance dt with
      port := { s.port with runLength := n, runLast := some f } }) ?_ ⟨rfl, elsewhere_of_same⟩
    show done (sampleFrameStep (s.advance dt) bytes) = _
    rw [sampleFrameStep_absent (s := s.advance dt) hsane hgood habsent, ← hf,
      runFrame_eq (s := s.advance dt) hnew hn, if_neg (by omega)]
    rfl
  · refine completes_of_done (u := (s.advance dt).headReady f) ?_ ⟨rfl, ?_, elsewhere_of_same⟩
    · show done (sampleFrameStep (s.advance dt) bytes) = _
      rw [sampleFrameStep_absent (s := s.advance dt) hsane hgood habsent, ← hf,
        runFrame_eq (s := s.advance dt) hnew hn, if_pos hle]
    · exact control_same_settle (headReady_control (s.advance dt) f)
  · refine completes_of_done (u := s.advance dt) ?_ elsewhere_of_same
    show done (sampleFrameStep (s.advance dt) bytes) = _
    rw [sampleFrameStep_absent (s := s.advance dt) hsane hgood habsent, ← hf,
      runFrame_duplicate (s := s.advance dt) hsame]

end Sys2Proof.Machine
end

section
/-! PROOFS. A lost head (01 R10, R16; 05 R90). -/

namespace Sys2Proof.Machine

/-! ## Sense records, discontinuities and claims at a station that is not coordinated -/

/-- The record becomes the pending one, or is counted as lost where one pends (11 R166). -/
theorem raise_eq (s : State) (code : SenseCode) (detail : Byte) (reference : Option StationNo) :
    s.raise code detail reference = { s with control := { s.control with
      sense := some (s.control.sense.getD ⟨code, detail, reference, s.now⟩)
      lostSense := if s.control.sense = none then s.control.lostSense else bump s.control.lostSense } } := by
  unfold State.raise
  cases h : s.control.sense <;> simp [h]

/-- The detector after a discontinuity (01 R16). -/
def PulseDetector.broken (d : PulseDetector) : PulseDetector :=
  { al := d.al.cleared, ar := d.ar.cleared, bl := d.bl.cleared, br := d.br.cleared
    queue := [], dropA := false, dropB := false, settled := none }

/-- The Assembler after a discontinuity that finds no open vehicle (03 R39). -/
def Assembler.broken (a : Assembler) : Assembler :=
  { a with current := none, runStart := none, presence := false, afterBreak := true }

theorem closeVehicle_none {s : State} (h : s.assembler.vehicle = none) (cause : CloseCause) :
    s.closeVehicle cause = s := by simp [State.closeVehicle, h]

theorem discontinuity_noVehicle {s : State} (h : s.assembler.vehicle = none) :
    s.discontinuity = { s with
      detector := s.detector.broken, former := .reset, assembler := s.assembler.broken } := by
  unfold State.discontinuity State.breakAssembler
  dsimp only
  rw [closeVehicle_none]
  · rfl
  · exact h

/-- Claims in flight stay at a station that is not coordinated (05 R90). -/
theorem dropUncoordinated_flying {s : State}
    (h : ∀ d ∈ s.admission.claims, d.state = .offeredInFlight) : s.dropUncoordinated = s := by
  have hnone : (s.admission.claims.filter fun d => d.state != .offeredInFlight) = [] :=
    List.filter_eq_nil_iff.2 fun d hd => by simp [h d hd]
  unfold State.dropUncoordinated
  rw [hnone, endClaims_nil, ite_self]

/-- The queue without the frame of a claim that is not in flight. -/
theorem txqWithout_grounded {s : State} {d : Claim} (h : d.state ≠ .offeredInFlight) :
    s.txqWithout d = if d.state = .offeredQueued then s.line.txq.filter (fun g => g.kind ≠ .claim)
      else s.line.txq := by
  have hf : (s.line.txq.filter fun g => g.kind != .claim) = s.line.txq.filter fun g => g.kind ≠ .claim :=
    List.filter_congr fun g _ => by by_cases hk : g.kind = .claim <;> simp [hk]
  simp [State.txqWithout, h, hf]

/-! ## The lost head -/

/-- The port without its head (01 R10). -/
def SamplePort.lost (p : SamplePort) : SamplePort :=
  { p with head := .absent, fifo := [], overrun := false, headTimer := none, runLength := 0, runLast := none }

/-- Station Control at a lost head: HEAD_LOST is raised, and a start before its head-wait limit waits again
(10 R156; 11 R166). -/
def State.headLostControl (s : State) : StationControl :=
  { s.control with
    sense := some (s.control.sense.getD ⟨.headLost, 0, none, s.now⟩)
    lostSense := if s.control.sense = none then s.control.lostSense else bump s.control.lostSense
    startStep := if s.control.startStep = .calibration
        ∧ reached s.now (if s.control.restarted = true then 5000 else 40000) = false
      then .headWait else s.control.startStep }

theorem resumeHeadWait_raise (s : State) :
    s.resumeHeadWait.raise .headLost 0 none = { s with control := s.headLostControl } := by
  have hlimit : span32 (headWaitLimit s.control.restarted)
      = if s.control.restarted = true then 5000 else 40000 := by
    cases s.control.restarted <;> rfl
  rw [raise_eq]
  simp [State.resumeHeadWait, State.headLostControl, hlimit]

/-- A head lost: all that comes before the claims of a station no longer coordinated end. -/
theorem headLostStep_eq {s : State} {finish : Time} (hr : s.port.head = .ready)
    (ht : s.port.headTimer = some finish) (hf : reached s.now finish) :
    headLostStep s =
      (State.discontinuity { s with port := s.port.lost, control := s.headLostControl }).dropUncoordinated := by
  have hx : s.expired s.port.headTimer = true := by simp [State.expired, ht, hf]
  unfold headLostStep
  rw [hr, hx]
  exact congrArg (fun u => (State.discontinuity u).dropUncoordinated)
    (resumeHeadWait_raise { s with port := s.port.lost })

/-- A head lost with no vehicle open. -/
def State.headLost (s : State) : State :=
  { s with port := s.port.lost, control := s.headLostControl
           detector := s.detector.broken, former := .reset, assembler := s.assembler.broken }

/-- Settles O16: the state that the lost head leaves, and then its claims as R90 ends them. -/
theorem headLostClearsTheMeasurement : Obligations.HeadLostClearsTheMeasurement := by
  intro s dt finish hready htimer hreached hvehicle limit measurement cleared
  have hstep : exec (.headLostTimer dt) s = done (s.advance dt).headLost.dropUncoordinated := by
    show done (headLostStep (s.advance dt)) = _
    rw [headLostStep_eq (s := s.advance dt) hready htimer hreached, discontinuity_noVehicle]
    · rfl
    · exact hvehicle
  have hcontrol : (s.advance dt).headLost.settle.control = { s.control with
      fault := true
      sense := some (s.control.sense.getD ⟨.headLost, 0, none, s.now + dt⟩)
      lostSense := if s.control.sense = none then s.control.lostSense else bump s.control.lostSense
      startStep := if s.control.startStep = .calibration ∧ reached (s.now + dt) limit = false
        then .headWait else s.control.startStep } := rfl
  have hcleared : ∀ u : State, u.port = (s.advance dt).headLost.port →
      u.detector = (s.advance dt).headLost.detector → u.former = (s.advance dt).headLost.former →
      u.control = (s.advance dt).headLost.control → cleared u.settle := by
    intro u hp hd hf hk
    have hfault : u.settle.control = (s.advance dt).headLost.settle.control := by
      rw [settle_control, settle_control, State.faultOutput, State.faultOutput, hk]
    refine ⟨hp, ?_, ?_, ?_, ?_, ?_, hf, hfault.trans hcontrol⟩
    all_goals
      show _
      simp [hd, State.headLost, PulseDetector.broken, ChannelState.cleared]
  refine ⟨fun hflying => ?_, fun c hc hstate hlate hroom => ?_⟩
  · rw [dropUncoordinated_flying] at hstep
    · exact completes_of_done hstep ⟨hcleared _ rfl rfl rfl rfl, rfl, elsewhere_of_same⟩
    · exact hflying
  · have hlost : (s.advance dt).headLost.dropUncoordinated = (State.finishClaim
        { (s.advance dt).headLost with
          admission := { s.admission with claims := [] }
          line := { s.line with txq := s.txqWithout c } } c .divertUncoordinated) := by
      refine dropUncoordinated_one ?_ hc hstate hlate
      simp [State.coordinated, State.headLost, SamplePort.lost]
    have hroom' : (s.txqWithout c).length < 8 := (txqWithout_length_le s c).trans_lt hroom
    rw [hlost] at hstep
    refine completes_of_done hstep ?_
    obtain ⟨hring, ⟨f, hkind, hbytes, hline⟩, hsign⟩ := divertedClaim_settle (dt := dt)
      (s := { s with assembler := s.assembler.broken }) (c := c) (o := .divertUncoordinated)
      (w := { (s.advance dt).headLost with
          admission := { s.admission with claims := [] }
          line := { s.line with txq := s.txqWithout c } }) rfl hroom' rfl rfl rfl rfl rfl
    have hfin := finishClaim_room c .divertUncoordinated (s := { (s.advance dt).headLost with
          admission := { s.admission with claims := [] }
          line := { s.line with txq := s.txqWithout c } }) hroom'
    refine ⟨hcleared _ ?_ ?_ ?_ ?_, ?_, hring, ⟨f, hkind, hbytes, hline.trans ?_⟩, hsign, ?_⟩
    case refine_6 => rw [← txqWithout_grounded hstate]
    case refine_7 => rw [hfin]; exact elsewhere_of_same
    all_goals rw [hfin]
    rfl

end Sys2Proof.Machine
end

section
/-! PROOFS. Samples consumed: the channels, the Assembler and what becomes of pulses (01; 03 R39, R40). -/

namespace Sys2Proof.Machine

/-! ## Modular time (00 R1) -/

/-- A time or index up to half the range ahead has not been reached. -/
theorem not_reached_ahead (a : BitVec 32) {n : Nat} (hn : 0 < n) (hn' : n < 2147483648) :
    reached a (a + span32 n) = false := by
  have h : a - (a + span32 n) = -span32 n := by
    apply BitVec.eq_of_toInt_eq
    simp
  have hs : (span32 n).toNat = n := by simp [span32]; omega
  have : modDiff a (a + span32 n) < 0 := by
    rw [modDiff, h, BitVec.toInt_neg, BitVec.toInt_eq_toNat_cond, hs, if_pos (by omega),
      Int.bmod_eq_of_le (by omega) (by omega)]
    omega
  simp [reached, this]

theorem later_self (a : BitVec 32) : later a a = a := by simp [later]

/-! ## The four channels at a sample (R8, R12 to R18) -/

/-- A sample that ends no pulse changes the channels only. -/
theorem apply_quiet {d : PulseDetector} {tOn tOff : Nat} {x : SampleContext} {r : Reading}
    {al ar bl br : ChannelState}
    (hal : d.al.take tOn tOff { x with rowDrop := d.dropA } r.al.toInt = (al, none))
    (har : d.ar.take tOn tOff { x with rowDrop := d.dropA } r.ar.toInt = (ar, none))
    (hbl : d.bl.take tOn tOff { x with rowDrop := d.dropB } r.bl.toInt = (bl, none))
    (hbr : d.br.take tOn tOff { x with rowDrop := d.dropB } r.br.toInt = (br, none)) :
    d.apply tOn tOff x r = { d with al, ar, bl, br } := by
  simp [PulseDetector.apply, hal, har, hbl, hbr, PulseDetector.joinAll]

/-- All four channels track and none of them begins a pulse. -/
structure PulseDetector.Rests (d : PulseDetector) (tOn : Nat) (r : Reading) : Prop where
  al : d.al.mode = .tracking ∧ r.al.toInt - d.al.sum / 64 < tOn
  ar : d.ar.mode = .tracking ∧ r.ar.toInt - d.ar.sum / 64 < tOn
  bl : d.bl.mode = .tracking ∧ r.bl.toInt - d.bl.sum / 64 < tOn
  br : d.br.mode = .tracking ∧ r.br.toInt - d.br.sum / 64 < tOn

/-- A tracking channel after a sample that begins no pulse (R12). -/
def ChannelState.tracked (c : ChannelState) (sample : Int) : ChannelState :=
  { sum := c.sum + (sample - c.sum / 64), mode := .tracking }

/-- The detector after a sample that it rests at. -/
def PulseDetector.tracked (d : PulseDetector) (r : Reading) : PulseDetector :=
  { d with al := d.al.tracked r.al.toInt, ar := d.ar.tracked r.ar.toInt
           bl := d.bl.tracked r.bl.toInt, br := d.br.tracked r.br.toInt }

theorem take_tracked {tOn tOff : Nat} {k : ChannelState} {sample : Int}
    (h : k.mode = .tracking ∧ sample - k.sum / 64 < tOn) (x : SampleContext) :
    k.take tOn tOff x sample = (k.tracked sample, none) := by
  obtain ⟨hm, hd⟩ := h
  cases k
  cases hm
  exact take_resting hd x

theorem apply_rests {d : PulseDetector} {tOn : Nat} {r : Reading} (h : d.Rests tOn r) (tOff : Nat)
    (x : SampleContext) : d.apply tOn tOff x r = d.tracked r :=
  apply_quiet (take_tracked h.al _) (take_tracked h.ar _) (take_tracked h.bl _) (take_tracked h.br _)

theorem tracked_settledAt (d : PulseDetector) (r : Reading) (index : Index) :
    (d.tracked r).settledAt index = index := rfl

/-! ## The Assembler at a sample, with no vehicle open (03 R39, R40) -/

/-- The Assembler after a sample, where no vehicle was open: a presence rise has opened one. -/
def Assembler.sampled (a : Assembler) (index : Index) (stamp : Time) (presence : Bool) : Assembler :=
  { a with
    current := some ⟨index, stamp⟩, presence, afterBreak := false
    runStart := if a.current = none ∨ a.presence ≠ presence then some index else a.runStart
    vehicle := if presence = true ∧ a.presence = false
      then some { axles := [], opening := index, presenceSeen := true, stallMark := false,
                  carriedGap := a.afterBreak, carriedSplit := false, lastJoin := none }
      else none }

theorem takeSample_noVehicle {s : State} (hv : s.assembler.vehicle = none) (hlo : 0 < s.stuckSamples)
    (hhi : s.stuckSamples < 2147483648) (index : Index) (stamp : Time) (presence : Bool) :
    s.takeSample index stamp presence =
      { s with assembler := s.assembler.sampled index stamp presence } := by
  have hrun : (if (s.assembler.current.isNone || s.assembler.presence != presence) = true
      then some index else s.assembler.runStart)
      = if s.assembler.current = none ∨ s.assembler.presence ≠ presence then some index
        else s.assembler.runStart := by simp
  unfold State.takeSample
  dsimp only
  rw [hrun, hv]
  by_cases hrise : presence = true ∧ s.assembler.presence = false
  · obtain ⟨hp, ha⟩ := hrise
    -- The vehicle that the rise opens passes neither test at its first sample.
    subst hp
    have hahead := not_reached_ahead index hlo hhi
    simp only [ha, Option.isNone_none, Bool.and_self, Bool.not_false, if_true]
    simp [State.openVehicle, State.sampleTests, State.quietPasses, State.stallPasses, Assembler.sampled, ha,
      later_self]
    exact fun h => absurd (hahead.symm.trans h) Bool.false_ne_true
  · have hno : (presence && !s.assembler.presence) = false := by
      cases presence <;> cases hs : s.assembler.presence <;> simp_all
    simp [hno, State.sampleTests, Assembler.sampled, hrise]

/-! ## One sample consumed (R8) -/

/-- The detector after a sample, its settled index published (R18). -/
def PulseDetector.sampled (d : PulseDetector) (index : Index) : PulseDetector :=
  { d with settled := some (d.settledAt index) }

/-- With no vehicle open and the former empty, a sample goes to the channels and to the Assembler only. -/
theorem consumeSample_noVehicle {s : State} {dn : Option Nat} (hv : s.assembler.vehicle = none)
    (hf : s.former = { openA := none, openB := none, waitingB := [], pendingA := [], lastDn := dn })
    (hlo : 0 < s.stuckSamples) (hhi : s.stuckSamples < 2147483648) (index : Index) (r : Reading)
    (isGap : Bool) :
    s.consumeSample index r isGap =
      { s with
        detector := (s.detector.apply s.tOn s.tOff ⟨index, s.now, r.temperature, isGap, false⟩ r).sampled index
        assembler := s.assembler.sampled index s.now r.presence } := by
  unfold State.consumeSample
  dsimp only
  rw [takeSample_noVehicle]
  · split
    · rw [handleHorizon_empty]
      · rfl
      all_goals rw [hf]
    · rfl
  · exact hv
  · exact hlo
  · exact hhi

/-- What one sample leaves unchanged, whatever the vehicle and the former hold. -/
theorem consumeSample_forms (s : State) (index : Index) (r : Reading) (isGap : Bool) :
    ∃ a : Assembler, a.current = some ⟨index, s.now⟩ ∧ a.presence = r.presence
      ∧ State.Forms { s with
          detector := (s.detector.apply s.tOn s.tOff ⟨index, s.now, r.temperature, isGap, false⟩ r).sampled index
          assembler := a } (s.consumeSample index r isGap) := by
  obtain ⟨a, hcur, hpres, _, hforms⟩ := takeSample_forms
    { s with detector := s.detector.apply s.tOn s.tOff ⟨index, s.now, r.temperature, isGap, false⟩ r }
    index s.now r.presence
  refine ⟨a, hcur, hpres, ?_⟩
  unfold State.consumeSample
  dsimp only
  generalize State.takeSample _ index s.now r.presence = u at hforms ⊢
  -- Publishing the settled index commutes with what the Assembler has done.
  have hsettled : State.Forms { s with
      detector := (s.detector.apply s.tOn s.tOff ⟨index, s.now, r.temperature, isGap, false⟩ r).sampled index
      assembler := a } { u with detector := u.detector.sampled index } := by
    obtain ⟨h1, h2, h3, h4, h5, h6, h7, h8, h9, h10, h11, h12⟩ := hforms
    exact ⟨h1, h2, h3, h4, by rw [h5], h6, h7, h8, h9, h10, h11, h12⟩
  split
  · exact hsettled.trans (handleHorizon_forms _)
  · exact hsettled

/-- The oldest entry leaves the FIFO; its missing samples come first, then its mark, then its own. -/
theorem sampleConsumeStep_eq {s : State} {e : FifoEntry} {rest : List FifoEntry}
    (hf : s.port.fifo = e :: rest) :
    sampleConsumeStep s =
      ((State.consumeGaps { s with port := { s.port with fifo := rest } } e e.gaps).markEntry e).consumeSample
        e.index e.reading false := by
  unfold sampleConsumeStep
  rw [hf]

theorem markEntry_plain {e : FifoEntry} (h : e.mark = .plain) (s : State) : s.markEntry e = s := by
  unfold State.markEntry
  rw [h]

theorem markEntry_seed {e : FifoEntry} (h : e.mark = .seed) (s : State) :
    s.markEntry e = { s with detector := s.detector.seed e.reading } := by
  unfold State.markEntry
  rw [h]

theorem markEntry_resync {e : FifoEntry} (h : e.mark = .resync) (s : State) :
    s.markEntry e = { s.discontinuity with detector := s.discontinuity.detector.seed e.reading } := by
  unfold State.markEntry
  rw [h]

theorem consumeGaps_zero (s : State) (e : FifoEntry) : s.consumeGaps e 0 = s := rfl

/-- A plain entry without gaps is its own sample alone. -/
theorem sampleConsumeStep_plain {s : State} {e : FifoEntry} {rest : List FifoEntry}
    (hf : s.port.fifo = e :: rest) (hm : e.mark = .plain) (hg : e.gaps = 0) :
    sampleConsumeStep s =
      ({ s with port := { s.port with fifo := rest } } : State).consumeSample e.index e.reading false := by
  rw [sampleConsumeStep_eq hf, markEntry_plain hm, hg]
  rfl

/-- A former that holds nothing but its last paired Δn. -/
theorem former_eq_empty {f : AxleFormer} (ha : f.openA = none) (hb : f.openB = none)
    (hw : f.waitingB = []) (hp : f.pendingA = []) :
    f = { openA := none, openB := none, waitingB := [], pendingA := [], lastDn := f.lastDn } := by
  cases f
  simp_all

/-- Settles O17: the channels track, and the Assembler has the sample; with nothing open only it changes. -/
theorem restingSampleIsConsumed : Obligations.RestingSampleIsConsumed := by
  intro s dt e rest al ar bl br hfifo hmark hgaps hal har hbl hbr dal dar dbl dbr
  have hstep : exec (.sampleConsume dt) s = done (State.consumeSample
      { s.advance dt with port := { s.port with fifo := rest } } e.index e.reading false) := by
    show done (sampleConsumeStep (s.advance dt)) = _
    rw [sampleConsumeStep_plain (s := s.advance dt) hfifo hmark hgaps]
    rfl
  have hrests : s.detector.Rests s.tOn e.reading := by
    constructor
    · rw [hal]; exact ⟨rfl, dal⟩
    · rw [har]; exact ⟨rfl, dar⟩
    · rw [hbl]; exact ⟨rfl, dbl⟩
    · rw [hbr]; exact ⟨rfl, dbr⟩
  have hdetector : (s.detector.apply s.tOn s.tOff ⟨e.index, s.now + dt, e.reading.temperature, false, false⟩
      e.reading).sampled e.index =
      { s.detector with
        al := { sum := al + (e.reading.al.toInt - al / 64), mode := .tracking }
        ar := { sum := ar + (e.reading.ar.toInt - ar / 64), mode := .tracking }
        bl := { sum := bl + (e.reading.bl.toInt - bl / 64), mode := .tracking }
        br := { sum := br + (e.reading.br.toInt - br / 64), mode := .tracking }
        settled := some e.index } := by
    rw [apply_rests hrests, PulseDetector.sampled, tracked_settledAt]
    simp [PulseDetector.tracked, ChannelState.tracked, hal, har, hbl, hbr]
  obtain ⟨a, hcur, hpres, hforms⟩ := consumeSample_forms
    { s.advance dt with port := { s.port with fifo := rest } } e.index e.reading false
  refine completes_of_done hstep ⟨hforms.port, hforms.detector.trans hdetector, ?_, ?_, ?_, ?_⟩
  · show (State.consumeSample _ e.index e.reading false).assembler.current = _
    rw [hforms.assembler]; exact hcur
  · show (State.consumeSample _ e.index e.reading false).assembler.presence = _
    rw [hforms.assembler]; exact hpres
  · intro hv hoa hob hw hp hlo hhi
    rw [consumeSample_noVehicle (dn := s.former.lastDn)]
    · exact ⟨rfl, rfl, rfl⟩
    · exact hv
    · exact former_eq_empty hoa hob hw hp
    · exact hlo
    · exact hhi
  · refine elsewhere_settle hforms.now hforms.pending fun p hp => ?_
    cases p <;> simp at hp
    · rw [Part.same, hforms.control]; rfl
    · exact hforms.admission
    · exact hforms.span
    · exact hforms.line
    · rw [Part.same, hforms.sign]; rfl
    · exact hforms.handler

/-! ## Samples of a pulse (R13 to R15) -/

/-- A sample at or above T_off goes on with a pulse that stays below 2 048 samples. -/
theorem take_pulseOn {tOn tOff : Nat} {sum sample : Int} {p : PulseInProgress} {d : Nat}
    (hd : sample - sum / 64 = d) (ht : tOff ≤ d) (hl : p.length + 1 < 2048) (x : SampleContext) :
    (⟨sum, .pulse p⟩ : ChannelState).take tOn tOff x sample =
      (⟨sum, .pulse { p with area := p.area + d, peak := max p.peak d, length := p.length + 1
                             gap := p.gap || x.isGap }⟩, none) := by
  have hl' : ¬ stuckLength ≤ p.length + 1 := Nat.not_le.2 hl
  simp [ChannelState.take, ChannelState.baseline, hd, ht, hl']

/-- The sample that would be its 2 048th abandons a pulse. -/
theorem take_pulseStuck {tOn tOff : Nat} {sum sample : Int} {p : PulseInProgress} {d : Nat}
    (hd : sample - sum / 64 = d) (ht : tOff ≤ d) (hl : 2048 ≤ p.length + 1) (x : SampleContext) :
    (⟨sum, .pulse p⟩ : ChannelState).take tOn tOff x sample = (⟨sum, .stuck⟩, none) := by
  have hl' : stuckLength ≤ p.length + 1 := hl
  simp [ChannelState.take, ChannelState.baseline, hd, ht, hl']

/-- The first sample below T_off ends a pulse and is tracked. -/
theorem take_pulseEnds {tOn tOff : Nat} {sum sample : Int} {p : PulseInProgress}
    (hd : sample - sum / 64 < tOff) (x : SampleContext) :
    (⟨sum, .pulse p⟩ : ChannelState).take tOn tOff x sample =
      (⟨sum + (sample - sum / 64), .tracking⟩, some p) := by
  have hd' : ¬ (tOff : Int) ≤ sample - sum / 64 := by omega
  simp [ChannelState.take, ChannelState.baseline, hd']

/-- A sample at or above T_on begins a pulse. -/
theorem take_onset {tOn tOff : Nat} {sum sample : Int} {d : Nat} (hd : sample - sum / 64 = d)
    (ht : tOn ≤ d) (x : SampleContext) :
    (⟨sum, .tracking⟩ : ChannelState).take tOn tOff x sample =
      (⟨sum, .pulse ⟨x.index, x.stamp, x.temperature, d, d, 1, x.isGap || x.rowDrop⟩⟩, none) := by
  simp [ChannelState.take, ChannelState.baseline, hd, ht]

theorem add_sub_baseline (sum : Int) (n : Nat) : sum / 64 + n - sum / 64 = (n : Int) := by omega

/-- A pulse goes on through samples at or above T_off: areas add up, and the peak is the largest. -/
theorem foldl_take_pulse {tOn tOff : Nat} {sum : Int} {x : SampleContext} (ds : List Nat) :
    ∀ p : PulseInProgress, (∀ n ∈ ds, tOff ≤ n) → p.length + ds.length < 2048 →
      (p.gap || x.isGap) = p.gap →
      ds.foldl (fun (c : ChannelState) (n : Nat) => (ChannelState.take c tOn tOff x (sum / 64 + n)).1) ⟨sum, .pulse p⟩ =
        ⟨sum, .pulse { p with area := p.area + ds.sum, peak := ds.foldl max p.peak
                              length := p.length + ds.length }⟩ := by
  induction ds with
  | nil => intro p _ _ _; rfl
  | cons d ds ih =>
    intro p hd hl hgap
    rw [List.length_cons] at hl
    rw [List.foldl_cons, take_pulseOn (add_sub_baseline sum d) (hd d (by simp)) (by omega), hgap]
    refine (ih { p with area := p.area + d, peak := max p.peak d, length := p.length + 1 }
      (fun n hn => hd n (by simp [hn])) (Nat.lt_of_le_of_lt (by simp; omega) hl) hgap).trans ?_
    simp [Nat.add_assoc, Nat.add_comm 1]

/-- A stuck channel stays so through samples at or above T_off. -/
theorem foldl_take_stuck {tOn tOff : Nat} {sum : Int} {x : SampleContext} (ds : List Nat)
    (hd : ∀ n ∈ ds, tOff ≤ n) :
    ds.foldl (fun (c : ChannelState) (n : Nat) => (ChannelState.take c tOn tOff x (sum / 64 + n)).1) ⟨sum, .stuck⟩ =
      ⟨sum, .stuck⟩ := by
  induction ds with
  | nil => rfl
  | cons d ds ih =>
    have hstays : (ChannelState.take ⟨sum, .stuck⟩ tOn tOff x (sum / 64 + d)).1 = ⟨sum, .stuck⟩ := by
      simp [ChannelState.take, ChannelState.baseline, hd d]
    rw [List.foldl_cons, hstays]
    exact ih fun n hn => hd n (by simp [hn])

/-- A pulse that would reach 2 048 samples leaves its channel stuck. -/
theorem foldl_take_abandoned {tOn tOff : Nat} {sum : Int} {x : SampleContext} (ds : List Nat) :
    ∀ p : PulseInProgress, (∀ n ∈ ds, tOff ≤ n) → p.length < 2048 → 2048 ≤ p.length + ds.length →
      ds.foldl (fun (c : ChannelState) (n : Nat) => (ChannelState.take c tOn tOff x (sum / 64 + n)).1) ⟨sum, .pulse p⟩ =
        ⟨sum, .stuck⟩ := by
  induction ds with
  | nil => intro p _ hlt hge; exact absurd hge (by simp; omega)
  | cons d ds ih =>
    intro p hd hlt hge
    rw [List.length_cons] at hge
    rw [List.foldl_cons]
    by_cases hl : p.length + 1 < 2048
    · rw [take_pulseOn (add_sub_baseline sum d) (hd d (by simp)) hl]
      exact ih _ (fun n hn => hd n (by simp [hn])) hl (by dsimp only; omega)
    · rw [take_pulseStuck (add_sub_baseline sum d) (hd d (by simp)) (by omega)]
      exact foldl_take_stuck ds fun n hn => hd n (by simp [hn])

/-! ## The pulse queue (R14, R17) -/

theorem join_room {d : PulseDetector} (h : d.queue.length < 32) (r : PulseRecord) :
    d.join r = ({ d with queue := d.queue ++
      [⟨{ r with gap := r.gap || d.dropMark r.channel.row }, d.settled⟩] } : PulseDetector).setDrop
        r.channel.row false := by
  have h' : ¬ pulseQueueCapacity ≤ d.queue.length := Nat.not_le.2 h
  unfold PulseDetector.join
  rw [if_neg h']

theorem join_full {d : PulseDetector} (h : 32 ≤ d.queue.length) (r : PulseRecord) :
    d.join r = d.setDrop r.channel.row true := by
  unfold PulseDetector.join
  exact if_pos h

/-- The record of a pulse as it stands in the queue, from a row whose drop mark is `mark`. -/
def PulseDetector.queued (d : PulseDetector) (channel : Channel) (p : PulseInProgress) (mark : Bool) :
    QueuedPulse :=
  { record := { channel, onset := p.onset, stamp := p.stamp, temperature := p.temperature,
                area := p.area, peak := p.peak, gap := p.gap || mark }
    note := d.settled }

/-- A record of each row comes to the queue: what it then holds, and the marks. -/
theorem join_join (d : PulseDetector) (p q : PulseInProgress) :
    (d.join (recordOfPulse .al p)).join (recordOfPulse .bl q) =
      { d with
        queue := if d.queue.length ≤ 30 then d.queue ++ [d.queued .al p d.dropA, d.queued .bl q d.dropB]
          else if d.queue.length = 31 then d.queue ++ [d.queued .al p d.dropA] else d.queue
        dropA := decide (32 ≤ d.queue.length), dropB := decide (31 ≤ d.queue.length) } := by
  rcases Nat.lt_or_ge d.queue.length 32 with h | h
  · rw [join_room h]
    rcases Nat.lt_or_ge d.queue.length 31 with h' | h'
    · rw [join_room (by simp [setDrop_queue]; omega)]
      have h30 : d.queue.length ≤ 30 := by omega
      have h32 : ¬ 32 ≤ d.queue.length := by omega
      have h31 : ¬ 31 ≤ d.queue.length := by omega
      simp only [h30, h32, h31, if_true, decide_false]
      simp [PulseDetector.setDrop, PulseDetector.dropMark, PulseDetector.queued, recordOfPulse, Channel.row]
    · rw [join_full (by simp [setDrop_queue]; omega)]
      have h30 : ¬ d.queue.length ≤ 30 := by omega
      have h32 : ¬ 32 ≤ d.queue.length := by omega
      have h31 : d.queue.length = 31 := by omega
      simp [h31]
      simp [PulseDetector.setDrop, PulseDetector.dropMark, PulseDetector.queued, recordOfPulse, Channel.row]
  · rw [join_full h, join_full (by simpa [setDrop_queue] using h)]
    have h30 : ¬ d.queue.length ≤ 30 := by omega
    have h32 : ¬ d.queue.length = 31 := by omega
    have h31 : 31 ≤ d.queue.length := by omega
    simp only [h30, h32, h31, h, if_false, decide_true]
    rfl

/-! ## Gaps and marks (R5, R6, R9) -/

/-- A pulse held at the hold values for `n` missing samples. -/
def PulseInProgress.heldFor (p : PulseInProgress) (h n : Nat) : PulseInProgress :=
  { p with area := p.area + n * h, peak := if n = 0 then p.peak else max p.peak h
           length := p.length + n, gap := p.gap || decide (0 < n) }

theorem heldFor_zero (p : PulseInProgress) (h : Nat) : p.heldFor h 0 = p := by
  simp [PulseInProgress.heldFor]

theorem heldFor_heldFor (p : PulseInProgress) (h n : Nat) :
    (p.heldFor h 1).heldFor h n = p.heldFor h (n + 1) := by
  have hn : p.area + h + n * h = p.area + (n + 1) * h := by ring
  have hl : p.length + 1 + n = p.length + (n + 1) := by omega
  by_cases h0 : n = 0 <;> simp [PulseInProgress.heldFor, h0, hn, hl]

/-- A sample without a change of presence and with none before it missing opens nothing. -/
theorem sampled_same {a : Assembler} (hv : a.vehicle = none) (hc : a.current ≠ none) {presence : Bool}
    (hp : presence = a.presence) (index : Index) (stamp : Time) :
    a.sampled index stamp presence = { a with current := some ⟨index, stamp⟩, afterBreak := false } := by
  subst hp
  have hrise : ¬ (a.presence = true ∧ a.presence = false) := by simp
  simp [Assembler.sampled, hc, hv]

/-- A station with no vehicle open, an empty former, and a pulse on AL alone. -/
structure State.PulseOnAL (s : State) (p : PulseInProgress) (al ar bl br : Int) (dn : Option Nat) : Prop where
  vehicle : s.assembler.vehicle = none
  former : s.former = { openA := none, openB := none, waitingB := [], pendingA := [], lastDn := dn }
  current : s.assembler.current ≠ none
  stuckLo : 0 < s.stuckSamples
  stuckHi : s.stuckSamples < 2147483648
  tOn : 0 < s.tOn
  al : s.detector.al = { sum := al, mode := .pulse p }
  ar : s.detector.ar = { sum := ar, mode := .tracking }
  bl : s.detector.bl = { sum := bl, mode := .tracking }
  br : s.detector.br = { sum := br, mode := .tracking }

/-- What a sample that goes on with the pulse on AL leaves. -/
theorem State.PulseOnAL.consumeSample {s : State} {p : PulseInProgress} {al ar bl br : Int} {dn : Option Nat}
    (hs : s.PulseOnAL p al ar bl br dn) {r : Reading} {d : Nat} (hp : r.presence = s.assembler.presence)
    (hd : r.al.toInt - al / 64 = d) (ht : s.tOff ≤ d) (hl : p.length + 1 < 2048)
    (har : r.ar.toInt - ar / 64 < s.tOn) (hbl : r.bl.toInt - bl / 64 < s.tOn)
    (hbr : r.br.toInt - br / 64 < s.tOn) (index : Index) (isGap : Bool) :
    s.consumeSample index r isGap = { s with
      detector := { s.detector with
        al := ⟨al, .pulse { p with area := p.area + d, peak := max p.peak d, length := p.length + 1
                                   gap := p.gap || isGap }⟩
        ar := ⟨ar + (r.ar.toInt - ar / 64), .tracking⟩, bl := ⟨bl + (r.bl.toInt - bl / 64), .tracking⟩
        br := ⟨br + (r.br.toInt - br / 64), .tracking⟩, settled := some (p.onset - 1) }
      assembler := { s.assembler with current := some ⟨index, s.now⟩, afterBreak := false } } := by
  rw [consumeSample_noVehicle hs.vehicle hs.former hs.stuckLo hs.stuckHi, sampled_same hs.vehicle hs.current hp,
    apply_quiet (hs.al ▸ take_pulseOn hd ht hl _) (hs.ar ▸ take_resting har _)
      (hs.bl ▸ take_resting hbl _) (hs.br ▸ take_resting hbr _)]
  rfl

/-- The missing samples of a gap go on with the pulse on AL, and move nothing else but the current sample
and the settled index. -/
theorem State.PulseOnAL.consumeGaps {al ar bl br : Int} {dn : Option Nat} {e : FifoEntry} {h : Nat} (n : Nat) :
    ∀ {s : State} {p : PulseInProgress}, s.PulseOnAL p al ar bl br dn →
      e.hold.presence = s.assembler.presence → e.hold.al.toInt - al / 64 = h → s.tOff ≤ h →
      e.hold.ar.toInt = ar / 64 → e.hold.bl.toInt = bl / 64 → e.hold.br.toInt = br / 64 →
      p.length + n < 2048 →
      ∃ settled current afterBreak, current ≠ none ∧ s.consumeGaps e n = { s with
        detector := { s.detector with al := ⟨al, .pulse (p.heldFor h n)⟩, settled }
        assembler := { s.assembler with current, afterBreak } } := by
  induction n with
  | zero =>
    intro s p hs _ _ _ _ _ _ _
    refine ⟨s.detector.settled, s.assembler.current, s.assembler.afterBreak, hs.current, ?_⟩
    rw [heldFor_zero, ← hs.al]
    rfl
  | succ n ih =>
    intro s p hs hp hd ht har hbl hbr hl
    have hone := hs.consumeSample hp hd ht (by omega) (by have := hs.tOn; omega)
      (by have := hs.tOn; omega) (by have := hs.tOn; omega) (e.index - span32 (n + 1)) true
    have hheld : ({ p with area := p.area + h, peak := max p.peak h, length := p.length + 1
                           gap := p.gap || true } : PulseInProgress) = p.heldFor h 1 := by
      simp [PulseInProgress.heldFor]
    have hsame : ∀ {sum sample : Int}, sample = sum / 64 → sum + (sample - sum / 64) = sum := by
      intro sum sample e; omega
    rw [hheld, hsame har, hsame hbl, hsame hbr] at hone
    unfold State.consumeGaps
    rw [hone]
    obtain ⟨settled, current, afterBreak, hcur, hrest⟩ := ih (s := { s with
        detector := { s.detector with
          al := ⟨al, .pulse (p.heldFor h 1)⟩, ar := ⟨ar, .tracking⟩, bl := ⟨bl, .tracking⟩
          br := ⟨br, .tracking⟩, settled := some (p.onset - 1) }
        assembler := { s.assembler with
          current := some ⟨e.index - span32 (n + 1), s.now⟩, afterBreak := false } }) (p := p.heldFor h 1)
      ⟨hs.vehicle, hs.former, by simp, hs.stuckLo, hs.stuckHi, hs.tOn, rfl, rfl, rfl, rfl⟩
      hp hd ht har hbl hbr (by simp only [PulseInProgress.heldFor]; omega)
    refine ⟨settled, current, afterBreak, hcur, hrest.trans ?_⟩
    rw [heldFor_heldFor, ← hs.ar, ← hs.bl, ← hs.br]

/-- A channel seeded from a sample rests at that sample. -/
theorem seeded_rests (d : PulseDetector) (r : Reading) {tOn : Nat} (ht : 0 < tOn) :
    (d.seed r).Rests tOn r := by
  have h : ∀ x : Sample, (ChannelState.seeded x.toInt).mode = .tracking
      ∧ x.toInt - (ChannelState.seeded x.toInt).sum / 64 < tOn := by
    intro x
    refine ⟨rfl, ?_⟩
    show x.toInt - 64 * x.toInt / 64 < tOn
    omega
  exact ⟨h _, h _, h _, h _⟩

theorem seeded_tracked (d : PulseDetector) (r : Reading) : (d.seed r).tracked r = d.seed r := by
  have h : ∀ x : Sample, (ChannelState.seeded x.toInt).tracked x.toInt = ChannelState.seeded x.toInt := by
    intro x
    have hx : 64 * x.toInt + (x.toInt - 64 * x.toInt / 64) = 64 * x.toInt := by omega
    simp only [ChannelState.tracked, ChannelState.seeded, hx]
  simp [PulseDetector.tracked, PulseDetector.seed, h]

/-- A station whose detector rests at a sample, with no vehicle open and the former empty: what a marked
entry's own sample leaves. -/
theorem consumeSample_rests {s : State} {dn : Option Nat} (hv : s.assembler.vehicle = none)
    (hf : s.former = { openA := none, openB := none, waitingB := [], pendingA := [], lastDn := dn })
    (hlo : 0 < s.stuckSamples) (hhi : s.stuckSamples < 2147483648) {r : Reading}
    (hr : s.detector.Rests s.tOn r) (index : Index) :
    s.consumeSample index r false =
      { s with
        detector := { s.detector.tracked r with settled := some index }
        assembler := s.assembler.sampled index s.now r.presence } := by
  rw [consumeSample_noVehicle hv hf hlo hhi, apply_rests hr, PulseDetector.sampled, tracked_settledAt]

/-- Settles O18: gap samples go on with the pulse, a seed entry seeds the channels, a resync entry clears
everything first. -/
theorem gapsAndMarksAreConsumed : Obligations.GapsAndMarksAreConsumed := by
  intro s dt e rest hfifo hvehicle htOn hlo hhi ⟨dn, hformer⟩ now channel
  have hstep : exec (.sampleConsume dt) s = done (((State.consumeGaps
      { s.advance dt with port := { s.port with fifo := rest } } e e.gaps).markEntry e).consumeSample
        e.index e.reading false) := by
    show done (sampleConsumeStep (s.advance dt)) = _
    rw [sampleConsumeStep_eq (s := s.advance dt) hfifo]
    rfl
  refine ⟨?_, ?_, ?_⟩
  · intro p al ar bl br h d hm hcur hholdP hownP hal har hbl hbr hh hd hth htd hlen hhar hhbl hhbr
      hoar hobl hobr
    have hpulse : State.PulseOnAL { s.advance dt with port := { s.port with fifo := rest } } p al ar bl br dn :=
      ⟨hvehicle, hformer, hcur, hlo, hhi, htOn, hal, har, hbl, hbr⟩
    obtain ⟨settled, current, afterBreak, hcurrent, hgaps⟩ := hpulse.consumeGaps (e := e) (h := h) e.gaps
      hholdP hh hth hhar hhbl hhbr (by omega)
    have hafter : State.PulseOnAL { s.advance dt with
        port := { s.port with fifo := rest }
        detector := { s.detector with al := ⟨al, .pulse (p.heldFor h e.gaps)⟩, settled }
        assembler := { s.assembler with current, afterBreak } } (p.heldFor h e.gaps) al ar bl br dn :=
      ⟨hvehicle, hformer, hcurrent, hlo, hhi, htOn, rfl, har, hbl, hbr⟩
    have hown := hafter.consumeSample (r := e.reading) hownP hd htd
      (by simp only [PulseInProgress.heldFor]; omega) hoar hobl hobr e.index false
    rw [hgaps, markEntry_plain hm] at hstep
    refine completes_of_done (hstep.trans (congrArg done hown)) ⟨rfl, ?_, rfl, elsewhere_of_same⟩
    simp [PulseInProgress.heldFor]
  · intro hm hg hpresence
    rw [hg, consumeGaps_zero, markEntry_seed hm, consumeSample_rests (dn := dn) (by exact hvehicle)
      (by exact hformer) (by exact hlo) (by exact hhi) (by exact seeded_rests _ _ htOn)] at hstep
    refine completes_of_done hstep ⟨rfl, ?_, ?_, elsewhere_of_same⟩
    · show ({ (s.detector.seed e.reading).tracked e.reading with settled := _ } : PulseDetector) = _
      rw [seeded_tracked]
      rfl
    · show s.assembler.sampled e.index now e.reading.presence = _
      have hrise : ¬ (e.reading.presence = true ∧ s.assembler.presence = false) := by
        rintro ⟨hr, hs⟩
        simp [hpresence hr] at hs
      rw [Assembler.sampled, if_neg hrise, ← hvehicle]
  · intro hm hg
    rw [hg, consumeGaps_zero, markEntry_resync hm, discontinuity_noVehicle (by exact hvehicle),
      consumeSample_rests (dn := none) (by exact hvehicle) (by rfl) (by exact hlo) (by exact hhi)
        (by exact seeded_rests _ _ htOn)] at hstep
    refine completes_of_done hstep ⟨rfl, ?_, rfl, ?_, elsewhere_of_same⟩
    · show ({ (s.detector.broken.seed e.reading).tracked e.reading with settled := _ } : PulseDetector) = _
      rw [seeded_tracked]
      rfl
    · show s.assembler.broken.sampled e.index now e.reading.presence = _
      cases e.reading.presence <;> rfl

/-- Settles O19: the life of a pulse sample by sample, and the records that its end brings to the queue. -/
theorem pulsesEndInARecordOrStuck : Obligations.PulsesEndInARecordOrStuck := by
  refine ⟨?_, ?_, ?_⟩
  · intro tOn tOff sum x ds d last _ _ hd hds hlen hlast
    have hfirst := take_onset (add_sub_baseline sum d) hd x (tOff := tOff)
    simp only [List.foldl_cons, hfirst]
    rw [foldl_take_pulse ds _ hds (Nat.add_comm _ _ ▸ hlen) (by cases x.isGap <;> simp),
      take_pulseEnds hlast]
    simp [Nat.add_comm]
  · intro tOn tOff sum x ds d last _ _ hd hds hlen hlast
    have hfirst := take_onset (add_sub_baseline sum d) hd x (tOff := tOff)
    have hlast' : ¬ (tOff : Int) ≤ last - sum / 64 := by omega
    simp only [List.foldl_cons, hfirst]
    rw [foldl_take_abandoned ds _ hds (show 1 < 2048 by decide) (show 2048 ≤ 1 + ds.length by omega)]
    refine ⟨rfl, ?_⟩
    simp [ChannelState.take, ChannelState.baseline, hlast']
  · intro s dt e rest p q al ar bl br hfifo hm hg hpresence hcur hvehicle ⟨dn, hformer⟩ hlo hhi
      hal har hbl hbr oal obl oar obr queued onA onB
    have happly : ∀ x : SampleContext, s.detector.apply s.tOn s.tOff x e.reading =
        (({ s.detector with
          al := ⟨al + (e.reading.al.toInt - al / 64), .tracking⟩
          ar := ⟨ar + (e.reading.ar.toInt - ar / 64), .tracking⟩
          bl := ⟨bl + (e.reading.bl.toInt - bl / 64), .tracking⟩
          br := ⟨br + (e.reading.br.toInt - br / 64), .tracking⟩ } : PulseDetector).join
            (recordOfPulse .al p)).join (recordOfPulse .bl q) := by
      intro x
      simp [PulseDetector.apply, hal, har, hbl, hbr, take_pulseEnds oal, take_pulseEnds obl,
        take_resting oar, take_resting obr, PulseDetector.joinAll]
    have hstep : exec (.sampleConsume dt) s = done (State.consumeSample
        { s.advance dt with port := { s.port with fifo := rest } } e.index e.reading false) := by
      show done (sampleConsumeStep (s.advance dt)) = _
      rw [sampleConsumeStep_plain (s := s.advance dt) hfifo hm hg]
      rfl
    rw [consumeSample_noVehicle (dn := dn) (by exact hvehicle) (by exact hformer) (by exact hlo)
      (by exact hhi), sampled_same (by exact hvehicle) (by exact hcur) (by exact hpresence)] at hstep
    have hdetector := congrArg (PulseDetector.sampled · e.index)
      ((happly ⟨e.index, s.now + dt, e.reading.temperature, false, false⟩).trans (join_join _ p q))
    refine completes_of_done hstep ⟨rfl, hdetector.trans ?_, fun h => ?_, fun h => ?_, fun h => ?_, rfl,
      elsewhere_of_same⟩
    · exact congrArg (fun queue => ({ s.detector with
        al := ⟨al + (e.reading.al.toInt - al / 64), .tracking⟩
        ar := ⟨ar + (e.reading.ar.toInt - ar / 64), .tracking⟩
        bl := ⟨bl + (e.reading.bl.toInt - bl / 64), .tracking⟩
        br := ⟨br + (e.reading.br.toInt - br / 64), .tracking⟩, queue
        dropA := decide (32 ≤ s.detector.queue.length), dropB := decide (31 ≤ s.detector.queue.length)
        settled := some e.index } : PulseDetector)) (congrArg PulseDetector.queue hdetector).symm
    · exact (congrArg PulseDetector.queue hdetector).trans (if_pos h)
    · exact (congrArg PulseDetector.queue hdetector).trans
        ((if_neg (by show ¬ s.detector.queue.length ≤ 30; omega)).trans (if_pos h))
    · exact (congrArg PulseDetector.queue hdetector).trans
        ((if_neg (by show ¬ s.detector.queue.length ≤ 30; omega)).trans
          (if_neg (by show ¬ s.detector.queue.length = 31; omega)))

end Sys2Proof.Machine
end

section
/-! PROOFS. The Axle Former and the Vehicle Assembler: row-axles, pairing, opening and closing (02, 03). -/

namespace Sys2Proof.Machine

/-! ## The horizon (02 R23) -/

theorem held_eq_false {s : State} (hl : s.control.load = none) (hq : s.assembler.closedQueue.length < 4) :
    s.held = false := by
  have hq' : ¬ closedQueueCapacity ≤ s.assembler.closedQueue.length := Nat.not_le.2 hq
  simp [State.held, hl, hq']

/-- A row without an open row-axle, or with one whose window has not passed, completes none. -/
theorem completeIfPassed_waits {s : State} {row : Row} {h : Index}
    (hx : ∀ x, s.former.openOf row = some x → reached h (x.first + span32 s.window) = false) :
    s.completeIfPassed row h = s := by
  unfold State.completeIfPassed
  split
  · rfl
  · next x e => simp [hx x e]

theorem pairDue_zero (s : State) (h : Index) : s.pairDue h 0 = s := rfl

theorem expirePending_waits {s : State} {h : Index} (hx : ∀ a ∈ s.former.pendingA, s.rowAExpired h a = false)
    (n : Nat) : s.expirePending h n = s := by
  have hnone : s.former.pendingA.find? (s.rowAExpired h) = none :=
    List.find?_eq_none.2 fun a ha => by simp [hx a ha]
  cases n with
  | zero => rfl
  | succ n =>
    unfold State.expirePending
    rw [hnone, ite_self]

/-- A horizon that passes no window and no expiry reaches nothing. -/
theorem handleHorizon_unreached {s : State} (hw : s.former.waitingB = [])
    (hopen : ∀ h, s.horizon = some h → ∀ row x, s.former.openOf row = some x →
      reached h (x.first + span32 s.window) = false)
    (hpending : ∀ h, s.horizon = some h → ∀ a ∈ s.former.pendingA, s.rowAExpired h a = false) :
    s.handleHorizon = s := by
  unfold State.handleHorizon
  split
  · rfl
  · split
    · rfl
    · next h e =>
      dsimp only
      rw [completeIfPassed_waits (hopen h e .a), completeIfPassed_waits (hopen h e .b), hw]
      exact expirePending_waits (hpending h e) _

/-- The only thing that the former holds is a pending entry whose expiry the horizon passes: it is issued
alone (02 R30, R31). -/
theorem handleHorizon_expires {s : State} {dn : Option Nat} {a : RowAxle} {h : Index} (hs : s.held = false)
    (hh : s.horizon = some h)
    (hf : s.former = { openA := none, openB := none, waitingB := [], pendingA := [a], lastDn := dn })
    (hx : s.rowAExpired h a = true) :
    s.handleHorizon = s.withReport (State.takeAxle
      { s with former := { openA := none, openB := none, waitingB := [], pendingA := [], lastDn := dn } }
      (singleA a)) := by
  have hopen : ∀ row, s.former.openOf row = none := by
    rw [hf]; intro row; cases row <;> rfl
  have hfind : s.former.pendingA.find? (s.rowAExpired h) = some a := by simp [hf, hx]
  unfold State.handleHorizon
  rw [hs, hh]
  dsimp only
  rw [if_neg Bool.false_ne_true, completeIfPassed_waits (row := .a) (by simp [hopen]),
    completeIfPassed_waits (row := .b) (by simp [hopen])]
  have hw : s.former.waitingB.length = 0 := by rw [hf]; rfl
  have hp : s.former.pendingA.length = 1 := by rw [hf]; rfl
  rw [hw, pairDue_zero, hp]
  unfold State.expirePending
  rw [hs, hfind]
  simp [hf, State.expirePending]

/-- A former that has become no emptier makes no report (02 R34). -/
theorem withReport_silent {s t : State} (h : s.former.isEmpty = true ∨ t.former.isEmpty = false) :
    s.withReport t = t := by
  unfold State.withReport
  rcases h with h | h <;> simp [h]

/-! ## Pulse records (02 R22 to R26) -/

/-- The head record is handled, then the horizon. -/
theorem pulseRecordTakeStep_eq {s : State} {q : QueuedPulse} {rest : List QueuedPulse}
    (hl : s.control.load = none) (hc : s.assembler.closedQueue.length < 4) (hq : s.detector.queue = q :: rest) :
    pulseRecordTakeStep s =
      (State.withReport { s with detector := { s.detector with queue := rest } }
        (State.handleRecord { s with detector := { s.detector with queue := rest } } q.record)).handleHorizon := by
  unfold pulseRecordTakeStep
  rw [held_eq_false hl hc, hq]
  rfl

/-- The first record of a row opens its row-axle. -/
theorem handleRecord_opens {s : State} {r : PulseRecord} (h : s.former.openOf r.channel.row = none) :
    s.handleRecord r = { s with former := s.former.setOpen r.channel.row (some (RowAxle.fresh r)) } := by
  simp [State.handleRecord, h]

/-- The second side of an open row-axle, inside its window, completes it. -/
theorem handleRecord_completes {s : State} {r : PulseRecord} {x : RowAxle}
    (h : s.former.openOf r.channel.row = some x) (hw : (modDiff r.onset x.first).natAbs ≤ s.window)
    (hside : (x.sideAbsent r.channel && (x.absorb r).left.isSome && (x.absorb r).right.isSome) = true) :
    s.handleRecord r = s.completeRowAxle r.channel.row (x.absorb r) := by
  unfold State.handleRecord
  dsimp only
  rw [h]
  dsimp only
  rw [if_pos hw, if_pos hside]

theorem not_reached_eq_false {h t : Index} (hr : ¬ reached h t) : reached h t = false := by
  simpa using hr

/-- Settles O20: the record opens its row-axle, or completes the row-A one that waited for its other side. -/
theorem pulseRecordsFormRowAxles : Obligations.PulseRecordsFormRowAxles := by
  refine ⟨?_, ?_⟩
  · intro s dt q rest dn hload hclosed hqueue hformer hhorizon
    have hopens := handleRecord_opens (s := { s.advance dt with detector := { s.detector with queue := rest } })
      (r := q.record) (by simp [hformer]; cases q.record.channel.row <;> rfl)
    have hstep : exec (.pulseRecordTake dt) s = done { s.advance dt with
        detector := { s.detector with queue := rest }
        former := s.former.setOpen q.record.channel.row (some (RowAxle.fresh q.record)) } := by
      show done (pulseRecordTakeStep (s.advance dt)) = _
      rw [pulseRecordTakeStep_eq (s := s.advance dt) hload hclosed hqueue]
      refine congrArg done ((congrArg _ (congrArg _ hopens)).trans ?_)
      rw [withReport_silent (.inl (by simp [hformer, AxleFormer.isEmpty]))]
      refine handleHorizon_unreached ?_ ?_ ?_
      · simp [hformer, AxleFormer.setOpen]; cases q.record.channel.row <;> rfl
      · intro h hh row x hx
        have hfirst : x = RowAxle.fresh q.record := by
          revert hx
          cases q.record.channel.row <;> cases row <;>
            simp [hformer, AxleFormer.setOpen, AxleFormer.openOf, eq_comm]
        subst hfirst
        exact not_reached_eq_false (hhorizon h hh)
      · have hnone : (s.former.setOpen q.record.channel.row (some (RowAxle.fresh q.record))).pendingA = [] := by
          simp [hformer, AxleFormer.setOpen]; cases q.record.channel.row <;> rfl
        intro h _ a ha
        exact absurd (hnone ▸ ha) List.not_mem_nil
    refine completes_of_done hstep ⟨rfl, ?_, ?_, ?_, ?_, elsewhere_of_same⟩
    · show (s.former.setOpen _ _).waitingB = []
      rw [hformer]; cases q.record.channel.row <;> rfl
    · show (s.former.setOpen _ _).pendingA = []
      rw [hformer]; cases q.record.channel.row <;> rfl
    · show (s.former.setOpen _ _).lastDn = dn
      rw [hformer]; cases q.record.channel.row <;> rfl
    · show (match q.record.channel with
        | .al => (s.former.setOpen _ _).openA = _ ∧ (s.former.setOpen _ _).openB = _
        | .ar => (s.former.setOpen _ _).openA = _ ∧ (s.former.setOpen _ _).openB = _
        | .bl => (s.former.setOpen _ _).openB = _ ∧ (s.former.setOpen _ _).openA = _
        | .br => (s.former.setOpen _ _).openB = _ ∧ (s.former.setOpen _ _).openA = _)
      rw [hformer]
      cases hc : q.record.channel <;>
        simp [AxleFormer.setOpen, RowAxle.fresh, Channel.row, Channel.isLeft, hc]
  · intro s dt q rest dn x hload hclosed hqueue hformer hchannel hleft hright hlo hhi hhorizon
    have hwindow : (modDiff q.record.onset x.first).natAbs ≤ s.window := by omega
    have habsorb : x.absorb q.record = { x with right := some q.record.area, gap := x.gap || q.record.gap } := by
      simp [RowAxle.absorb, hchannel, Channel.isLeft, hright, addArea, not_lt.2 hlo]
    have hcompletes : State.handleRecord { s.advance dt with detector := { s.detector with queue := rest } }
        q.record = { s.advance dt with
          detector := { s.detector with queue := rest }
          former := { openA := none, openB := none, waitingB := [], lastDn := dn
                      pendingA := [{ x with right := some q.record.area, gap := x.gap || q.record.gap }] } } := by
      rw [handleRecord_completes (x := x) (by rw [hchannel]; exact congrArg AxleFormer.openA hformer) (by exact hwindow)
        (by simp [habsorb, RowAxle.sideAbsent, hchannel, Channel.isLeft, hright, hleft]), habsorb, hchannel]
      simp [State.completeRowAxle, Channel.row, hformer, AxleFormer.setOpen, State.pendRowA, insertRowAxle,
        pendingCapacity]
    have hstep : exec (.pulseRecordTake dt) s = done { s.advance dt with
        detector := { s.detector with queue := rest }
        former := { openA := none, openB := none, waitingB := [], lastDn := dn
                    pendingA := [{ x with right := some q.record.area, gap := x.gap || q.record.gap }] } } := by
      show done (pulseRecordTakeStep (s.advance dt)) = _
      rw [pulseRecordTakeStep_eq (s := s.advance dt) hload hclosed hqueue]
      refine congrArg done ((congrArg _ (congrArg _ hcompletes)).trans ?_)
      rw [withReport_silent (.inr rfl)]
      refine handleHorizon_unreached rfl ?_ ?_
      · intro h _ row x hx
        cases row <;> cases hx
      · intro h hh a ha
        rw [List.mem_singleton.1 ha]
        exact not_reached_eq_false (hhorizon h hh)
    exact completes_of_done hstep ⟨rfl, rfl, elsewhere_of_same⟩

/-! ## Pairing (02 R28) -/

theorem mem_insertAxle (x : Axle) (l : List Axle) : x ∈ insertAxle x l := by
  induction l with
  | nil => simp [insertAxle]
  | cons a l ih => unfold insertAxle; split <;> simp [ih]

/-- An axle joins an open list that has room. -/
theorem takeAxle_room {s : State} {v : OpenVehicle} (hv : s.assembler.vehicle = some v)
    (hl : v.axles.length < 24) (x : Axle) :
    s.takeAxle x = { s with assembler := { s.assembler with
      vehicle := some { v with
        axles := insertAxle x v.axles
        lastJoin := some ((s.assembler.current.map CurrentSample.index).getD x.reference) } } } := by
  have hl' : v.axles.length < openListCapacity := hl
  simp [State.takeAxle, State.joinOpen, hv, hl']

/-- Settles O22: the search finds the first partner, which stands alone among those before it. -/
theorem pairingTakesTheOldestPartner : Obligations.PairingTakesTheOldestPartner := by
  intro s v b a before after hv hlen hpending hbefore hlo hhi
  have hpartner : isPartner s.dnMin s.dnMax b.first a = true := by simp [isPartner, hlo, hhi]
  have hno : ∀ p ∈ before, isPartner s.dnMin s.dnMax b.first p = false := fun p hp => by
    simpa [isPartner] using hbefore p hp
  have hfind : s.former.pendingA.find? (isPartner s.dnMin s.dnMax b.first) = some a := by
    rw [hpending, List.find?_append, List.find?_eq_none.2 fun p hp => by simp [hno p hp]]
    simp [hpartner]
  have hnotin : a ∉ before := fun h => by simp [hno a h] at hpartner
  have herase : s.former.pendingA.erase a = before ++ after := by
    rw [hpending, List.erase_append_right _ hnotin, List.erase_cons_head]
  unfold State.pairRowB
  rw [hfind]
  dsimp only
  rw [takeAxle_room (v := v) (by exact hv) hlen]
  exact ⟨herase, rfl, _, rfl, insertAxle_length _ _, mem_insertAxle _ _⟩

/-! ## Pieces and tags (03 R47, R50) -/

/-- The pieces of a close are the list cut at its wide spacings; by the list, as they are made from its end. -/
theorem piecesOf_cuts (maxSpacing speed : Nat) (axles : List Axle) :
    (piecesOf maxSpacing speed axles).flatten = axles
      ∧ (∀ p ∈ piecesOf maxSpacing speed axles, p ≠ []
          ∧ p.IsChain fun a b => spacingOf a.reference b.reference speed ≤ maxSpacing)
      ∧ (piecesOf maxSpacing speed axles).IsChain fun p q =>
          ∀ a ∈ p.getLast?, ∀ b ∈ q.head?, maxSpacing < spacingOf a.reference b.reference speed := by
  induction axles with
  | nil => simp [piecesOf]
  | cons a rest ih =>
    obtain ⟨hflat, hpieces, hcuts⟩ := ih
    unfold piecesOf
    generalize piecesOf maxSpacing speed rest = pieces at hflat hpieces hcuts
    match pieces with
    | [] => exact ⟨by simpa using hflat, by simp, by simp⟩
    | [] :: more => exact absurd rfl (hpieces [] (by simp)).1
    | (b :: piece) :: more =>
      dsimp only
      split
      · next hcut =>
        refine ⟨by simpa using hflat, ?_, ?_⟩
        · rw [List.forall_mem_cons]
          exact ⟨by simp, hpieces⟩
        · rw [List.isChain_cons_cons]
          exact ⟨by simpa using hcut, hcuts⟩
      · next hjoin =>
        have hfirst := hpieces (b :: piece) (by simp)
        refine ⟨by simpa using hflat, ?_, ?_⟩
        · rw [List.forall_mem_cons]
          refine ⟨⟨by simp, ?_⟩, fun p hp => hpieces p (by simp [hp])⟩
          rw [List.isChain_cons_cons]
          exact ⟨Nat.not_lt.1 hjoin, hfirst.2⟩
        · cases more with
          | nil => simp
          | cons q more =>
            rw [List.isChain_cons_cons] at hcuts ⊢
            simpa using hcuts

theorem tag_add_ofNat_succ (c : Tag) (k : Nat) :
    c + BitVec.ofNat 12 (k + 1) = c + 1 + BitVec.ofNat 12 k := by
  rw [BitVec.ofNat_add, BitVec.add_comm (BitVec.ofNat 12 k), BitVec.add_assoc]
  rfl

/-- The search for a tag goes past tags that are held only, and stops at one that is not, if it stops before
its steps are used up. -/
theorem freeTag_search (held : Tag → Bool) (n : Nat) : ∀ c : Tag,
    ∃ k ≤ n, freeTag held n c = c + BitVec.ofNat 12 k
      ∧ (∀ i < k, held (c + BitVec.ofNat 12 i) = true)
      ∧ (k < n → held (freeTag held n c) = false) := by
  induction n with
  | zero => intro c; exact ⟨0, Nat.le_refl _, by simp [freeTag], by simp, by simp⟩
  | succ n ih =>
    intro c
    unfold freeTag
    cases hc : held c with
    | false => exact ⟨0, by omega, by simp, by simp, fun _ => by simpa using hc⟩
    | true =>
      obtain ⟨k, hk, heq, hall, hstop⟩ := ih (c + 1)
      refine ⟨k + 1, by omega, ?_, ?_, fun h => by simpa using hstop (by omega)⟩
      · rw [tag_add_ofNat_succ]; exact heq
      · intro i hi
        cases i with
        | zero => simpa using hc
        | succ i => rw [tag_add_ofNat_succ]; exact hall i (by omega)

/-- At most as many tags as the table has entries are held under a number. -/
theorem held_run_le {table : SpanTable} {own : StationNo} {c : Tag} {k : Nat} (hk : k ≤ 4096)
    (h : ∀ i < k, table.holds own (c + BitVec.ofNat 12 i) = true) : k ≤ table.entries.length := by
  have hnodup : ((List.range k).map fun i => c + BitVec.ofNat 12 i).Nodup := by
    refine List.Nodup.map_on (fun i hi j hj hij => ?_) List.nodup_range
    rw [List.mem_range] at hi hj
    have heq : BitVec.ofNat 12 i = BitVec.ofNat 12 j := (BitVec.add_right_inj _).1 hij
    have htoNat := congrArg BitVec.toNat heq
    simp only [BitVec.toNat_ofNat] at htoNat
    omega
  have hsub : ((List.range k).map fun i => c + BitVec.ofNat 12 i) ⊆ table.entries.map SpanEntry.tag := by
    intro tag htag
    obtain ⟨i, hi, rfl⟩ := List.mem_map.1 htag
    obtain ⟨e, he, hkey⟩ := List.any_eq_true.1 (h i (List.mem_range.1 hi))
    refine List.mem_map.2 ⟨e, he, ?_⟩
    simp only [SpanEntry.hasKey, Bool.and_eq_true, beq_iff_eq] at hkey
    exact hkey.2
  simpa using (List.subperm_of_subset hnodup hsub).length_le

/-- Settles O23: the cuts of a close, and a search among at most 32 entries that ends within 33 steps. -/
theorem piecesAndTagsOfAClose : Obligations.PiecesAndTagsOfAClose := by
  refine ⟨piecesOf_cuts, fun table own counter hlen => ?_⟩
  obtain ⟨k, hk, heq, hall, hstop⟩ := freeTag_search (table.holds own) 33 counter
  have hk32 : k ≤ 32 := (held_run_le (by omega) hall).trans hlen
  have hdiff : (freeTag (table.holds own) 33 counter - counter).toNat = k := by
    rw [heq, BitVec.add_comm, BitVec.add_sub_cancel, BitVec.toNat_ofNat]
    omega
  dsimp only
  rw [hdiff]
  exact ⟨hstop (by omega), hk32, hall⟩

end Sys2Proof.Machine
end

section
/-! PROOFS. Vehicles that open at an axle, vanish or close into records (03 R40 to R51). -/

namespace Sys2Proof.Machine

/-! ## A resting sample, the vehicle and the horizon -/

/-- A sample at rest: the channels follow it, the Assembler has it, and the horizon is handled under it. -/
theorem consumeSample_atRest {s : State} {r : Reading} (hr : s.detector.Rests s.tOn r)
    (hq : s.detector.queue = []) (index : Index) :
    s.consumeSample index r false =
      State.handleHorizon { State.takeSample { s with detector := s.detector.tracked r } index s.now r.presence with
        detector := { s.detector.tracked r with settled := some index } } := by
  obtain ⟨a, _, _, _, hforms⟩ := takeSample_forms { s with detector := s.detector.tracked r } index s.now r.presence
  have hdetector := hforms.detector
  unfold State.consumeSample
  dsimp only
  rw [apply_rests hr]
  generalize State.takeSample { s with detector := s.detector.tracked r } index s.now r.presence = u at hdetector ⊢
  have hempty : (s.detector.tracked r).queue.isEmpty = true := by simp [PulseDetector.tracked, hq]
  have hsettled : u.detector.settledAt index = index := by rw [hdetector]; exact tracked_settledAt _ _ _
  rw [hsettled, hdetector, if_pos hempty]

/-- What `Rests` says, by the list of the channels and their samples. -/
theorem rests_of_forall {d : PulseDetector} {tOn : Nat} {r : Reading}
    (h : ∀ c : ChannelState × Sample, c ∈ [(d.al, r.al), (d.ar, r.ar), (d.bl, r.bl), (d.br, r.br)] →
      c.1.mode = .tracking ∧ c.2.toInt - c.1.sum / 64 < tOn) : d.Rests tOn r :=
  ⟨h (d.al, r.al) (by simp), h (d.ar, r.ar) (by simp), h (d.bl, r.bl) (by simp), h (d.br, r.br) (by simp)⟩

/-- A plain entry without gaps whose sample is at rest. -/
theorem exec_sampleConsume_atRest {s : State} {dt : Time} {e : FifoEntry} {rest : List FifoEntry}
    (hfifo : s.port.fifo = e :: rest) (hmark : e.mark = .plain) (hgaps : e.gaps = 0)
    (hrests : s.detector.Rests s.tOn e.reading) (hqueue : s.detector.queue = []) :
    exec (.sampleConsume dt) s = done (State.handleHorizon
      { State.takeSample { s.advance dt with
          port := { s.port with fifo := rest }, detector := s.detector.tracked e.reading }
          e.index (s.now + dt) e.reading.presence with
        detector := { s.detector.tracked e.reading with settled := some e.index } }) := by
  show done (sampleConsumeStep (s.advance dt)) = _
  rw [sampleConsumeStep_plain (s := s.advance dt) hfifo hmark hgaps, consumeSample_atRest (by exact hrests)
    (by exact hqueue)]
  rfl

/-- What a plain resting entry leaves unchanged. -/
theorem sampleConsume_forms {s : State} {dt : Time} {e : FifoEntry} {rest : List FifoEntry}
    (hfifo : s.port.fifo = e :: rest) (hmark : e.mark = .plain) (hgaps : e.gaps = 0) {u : State}
    (hu : exec (.sampleConsume dt) s = done u) :
    u.settle.assembler.current = some ⟨e.index, s.now + dt⟩
      ∧ Elsewhere [.counters, .port, .detector, .former, .assembler] dt s u.settle := by
  have hstep : done u = done (State.consumeSample
      { s.advance dt with port := { s.port with fifo := rest } } e.index e.reading false) := by
    rw [← hu]
    show done (sampleConsumeStep (s.advance dt)) = _
    rw [sampleConsumeStep_plain (s := s.advance dt) hfifo hmark hgaps]
    rfl
  obtain ⟨a, hcur, _, hforms⟩ := consumeSample_forms
    { s.advance dt with port := { s.port with fifo := rest } } e.index e.reading false
  rw [Host.Outcome.next.inj hstep]
  refine ⟨?_, ?_⟩
  · show (State.consumeSample _ e.index e.reading false).assembler.current = _
    rw [hforms.assembler]; exact hcur
  · refine elsewhere_settle hforms.now hforms.pending fun p hp => ?_
    cases p <;> simp at hp
    · rw [Part.same, hforms.control]; rfl
    · exact hforms.admission
    · exact hforms.span
    · exact hforms.line
    · rw [Part.same, hforms.sign]; rfl
    · exact hforms.handler

/-- A sample without a change of presence, with no vehicle open. -/
theorem takeSample_still {s : State} (hv : s.assembler.vehicle = none) (hc : s.assembler.current ≠ none)
    {presence : Bool} (hp : presence = s.assembler.presence) (index : Index) (stamp : Time) :
    s.takeSample index stamp presence =
      { s with assembler := { s.assembler with current := some ⟨index, stamp⟩, afterBreak := false } } := by
  subst hp
  simp [State.takeSample, hv, hc, State.sampleTests]

/-! ## The tests of a sample (03 R43, R44) -/

theorem sampleTests_quiet {s : State} {v : OpenVehicle} (hv : s.assembler.vehicle = some v)
    (hq : s.quietPasses v = true) : s.sampleTests = s.closeVehicle .ordinary := by
  simp [State.sampleTests, hv, hq]

/-- A stalled vehicle is marked, and closed at once where the former is empty. -/
theorem sampleTests_stall {s : State} {v : OpenVehicle} (hv : s.assembler.vehicle = some v)
    (hq : s.quietPasses v = false) (hs : s.stallPasses v = true) (hf : s.former.isEmpty = true) :
    s.sampleTests = State.closeVehicle
      { s with assembler := { s.assembler with vehicle := some { v with stallMark := true } } } .ordinary := by
  simp [State.sampleTests, State.closeIfDue, hv, hq, hs, hf]

theorem sampleTests_goesOn {s : State} {v : OpenVehicle} (hv : s.assembler.vehicle = some v)
    (hq : s.quietPasses v = false) (hm : v.stallMark = false) (hs : s.stallPasses v = false) :
    s.sampleTests = s := by
  simp [State.sampleTests, hv, hq, hm, hs]

/-- The quiet test with presence clear and the former empty (03 R43). -/
theorem quietPasses_iff {s : State} {v : OpenVehicle} {c : CurrentSample} (hc : s.assembler.current = some c)
    (hp : s.assembler.presence = false) (hf : s.former.isEmpty = true) :
    s.quietPasses v = reached c.index (s.assembler.quietStart v + 1024) := by
  simp [State.quietPasses, hc, hp, hf]
  rfl

theorem quietPasses_present {s : State} (h : s.assembler.presence = true) (v : OpenVehicle) :
    s.quietPasses v = false := by
  unfold State.quietPasses
  split <;> simp [h]

theorem quietPasses_formerBusy {s : State} (h : s.former.isEmpty = false) (v : OpenVehicle) :
    s.quietPasses v = false := by
  unfold State.quietPasses
  split <;> simp [h]

/-- The stall test with presence set (03 R44). -/
theorem stallPasses_eq {s : State} {v : OpenVehicle} {c : CurrentSample} {r : Index}
    (hc : s.assembler.current = some c) (hr : s.assembler.runStart = some r) (hp : s.assembler.presence = true) :
    s.stallPasses v = reached c.index (later r v.opening + span32 s.stuckSamples) := by
  simp [State.stallPasses, hc, hr, hp]

theorem stallPasses_absent {s : State} (h : s.assembler.presence = false) (v : OpenVehicle) :
    s.stallPasses v = false := by
  unfold State.stallPasses
  split <;> simp [h]

/-- A vehicle whose axle has joined at the current sample is due for no close. -/
theorem closeIfDue_joined {s : State} {v : OpenVehicle} {c : CurrentSample} (hv : s.assembler.vehicle = some v)
    (hc : s.assembler.current = some c) (hseen : v.presenceSeen = false) (hj : v.lastJoin = some c.index)
    (hm : v.stallMark = false) : s.closeIfDue = s := by
  have hnot : reached c.index (s.assembler.quietStart v + span32 quietSamples) = false := by
    simp only [Assembler.quietStart, hseen, hj, Option.getD_some]
    exact not_reached_ahead c.index (by decide) (by decide)
  simp [State.closeIfDue, hv, State.quietPasses, hc, hm, hnot]

theorem withReport_joined {s t : State} {v : OpenVehicle} {c : CurrentSample} (hv : t.assembler.vehicle = some v)
    (hc : t.assembler.current = some c) (hseen : v.presenceSeen = false) (hj : v.lastJoin = some c.index)
    (hm : v.stallMark = false) : s.withReport t = t := by
  unfold State.withReport
  rw [closeIfDue_joined hv hc hseen hj hm, ite_self]

/-- A vehicle without axles leaves no record (03 R46). -/
theorem closeVehicle_noAxles {s : State} {v : OpenVehicle} (hv : s.assembler.vehicle = some v)
    (ha : v.axles = []) (cause : CloseCause) :
    s.closeVehicle cause = { s with former := { s.former with lastDn := none }
                                    assembler := { s.assembler with vehicle := none } } := by
  simp [State.closeVehicle, hv, ha]

/-- The axle of a row-A row-axle issued alone. -/
theorem singleA_eq (a : RowAxle) : singleA a =
    { reference := a.first, stamp := a.stamp, temperature := a.temperature, rowBStamp := none
      speed := none, al := a.left, ar := a.right, bl := none, br := none, singleRow := true
      oneSided := a.left.isNone || a.right.isNone, gap := a.gap, load := none, spacing := none } := by
  simp [singleA, oneSidedOf]

/-- The vehicle that an axle opens, at the current sample. -/
def OpenVehicle.atAxle (x : Axle) (index : Index) (split : Bool) : OpenVehicle :=
  { axles := [x], opening := index, presenceSeen := false, stallMark := false, carriedGap := false
    carriedSplit := split, lastJoin := some index }

theorem takeAxle_opens {s : State} {c : CurrentSample} (hv : s.assembler.vehicle = none)
    (hc : s.assembler.current = some c) (hp : s.assembler.presence = false) (x : Axle) :
    s.takeAxle x = { s with assembler := { s.assembler with
      vehicle := some (OpenVehicle.atAxle x c.index false) } } := by
  simp [State.takeAxle, State.openVehicle, State.joinOpen, hv, hc, hp, insertAxle, OpenVehicle.atAxle]

/-- A 25th axle closes the vehicle and opens the next one. -/
theorem takeAxle_splits {s : State} {v : OpenVehicle} {c : CurrentSample} (hv : s.assembler.vehicle = some v)
    (hl : v.axles.length = 24) (hc : s.assembler.current = some c) (hp : s.assembler.presence = false) (x : Axle) :
    s.takeAxle x = { s.closeVehicle .cut with assembler := { (s.closeVehicle .cut).assembler with
      vehicle := some (OpenVehicle.atAxle x c.index true) } } := by
  have hl' : ¬ v.axles.length < openListCapacity := by rw [hl]; decide
  have hp' : (s.closeVehicle .cut).assembler.presence = false := by
    rw [(closeVehicle_forms s .cut).assembler]; exact hp
  simp only [State.takeAxle, hv, hl', if_false, State.openVehicle, State.joinOpen, hc, hp',
    Option.map_some, Option.getD_some, insertAxle, OpenVehicle.atAxle]

/-- Settles O24: the expired entry's axle finds no vehicle; an empty vehicle closes without a record. -/
theorem vehiclesOpenAtAnAxleAndVanishEmpty : Obligations.VehiclesOpenAtAnAxleAndVanishEmpty := by
  intro s dt e rest dn hfifo hmark hgaps hpres hclear hcur hqueue hrest current
  have hrests := rests_of_forall hrest
  have hstep := exec_sampleConsume_atRest (dt := dt) hfifo hmark hgaps hrests hqueue
  have hsame : e.reading.presence = s.assembler.presence := by rw [hpres, hclear]
  refine ⟨fun a hv hload hclosed hformer hreached => ?_, fun v hv haxles hformer hreached => ?_⟩
  · rw [takeSample_still (by exact hv) (by exact hcur) (by exact hsame),
      handleHorizon_expires (dn := dn) (a := a) (h := e.index) (by exact held_eq_false hload hclosed)
        (by simp [State.horizon, PulseDetector.tracked, hqueue]) (by exact hformer) (by exact hreached),
      takeAxle_opens (c := current) (by exact hv) (by rfl) (by exact hclear),
      withReport_joined (c := current) (by rfl) (by rfl) (by rfl) (by rfl) (by rfl), singleA_eq] at hstep
    exact completes_of_done hstep ⟨rfl, rfl, elsewhere_of_same⟩
  · have hquiet : reached e.index (s.assembler.quietStart v + 1024) = true := hreached
    rw [takeSample_open (v := v) (by exact hv) (by exact hsame) (by exact hcur), sampleTests_quiet (by rfl) ?_,
      closeVehicle_noAxles (by rfl) (by exact haxles), handleHorizon_empty] at hstep
    · refine completes_of_done hstep ⟨?_, ?_, elsewhere_of_same⟩
      · show ({ s.former with lastDn := none } : AxleFormer) = _
        rw [hformer]
      · show ({ s.assembler with current := _, presence := e.reading.presence, afterBreak := _, vehicle := _ }
          : Assembler) = _
        rw [hsame]
    · exact congrArg AxleFormer.openA hformer
    · exact congrArg AxleFormer.openB hformer
    · exact congrArg AxleFormer.waitingB hformer
    · exact congrArg AxleFormer.pendingA hformer
    · rw [quietPasses_iff (c := current) (by rfl) (by exact hpres) (by simp [hformer, AxleFormer.isEmpty])]
      simpa [Assembler.quietStart, hpres] using hreached

/-! ## The records of a close (03 R46 to R51) -/

/-- The pieces of a close of `v`. -/
def State.closePieces (s : State) (v : OpenVehicle) : List (List Axle) :=
  piecesOf s.maxAxleSpacing (splitSpeed v.axles s.defaultSpeed) v.axles

/-- In `t` the vehicle `v` of `s` has closed at the station time of the command. -/
def State.ClosedInto (s : State) (dt : Time) (v : OpenVehicle) (stalled gap split : Bool) (t : State) : Prop :=
  let pieces := s.closePieces v
  ∃ tags : List Tag, tags.length = pieces.length
    ∧ (∀ (i : Nat) (tag : Tag), tags[i]? = some tag → tag = freeTag (s.span.holds s.control.straps.number) 33
        (if i = 0 then s.assembler.tagCounter else tags.getD (i - 1) 0 + 1))
    ∧ t.assembler.tagCounter = tags.getLast?.getD 0 + 1
    ∧ (let records := List.zipWith (fun (tag : Tag) (p : List Axle) =>
        ({ origin := s.control.straps.number, tag
           firstStamp := (p.head?.map Axle.stamp).getD (s.now + dt)
           firstRowB := earliest ((p.take 12).filterMap Axle.rowBStamp)
           speed := none, band := none, axleCount := min p.length 15, axles := p.take 12
           flags := { gap := p.any Axle.gap || v.carriedGap || gap
                      oneSided := p.any Axle.oneSided, singleRow := p.any Axle.singleRow
                      split := v.carriedSplit || split || decide (1 < pieces.length)
                      stalled := v.stallMark || stalled, axleOverflow := decide (12 < p.length)
                      saturated := false, tempOut := false }
           measuredGross := 0, assessedGross := 0, verdict := none, lightMark := false
           outcome := none, deadline := none, lastObjection := none
           closeTime := s.now + dt } : VehicleRecord)) tags pieces
      let made := s.assembler.outbound ++ records
      let free := 4 - s.assembler.closedQueue.length
      t.assembler.closedQueue = s.assembler.closedQueue ++ made.take free
        ∧ t.assembler.outbound = made.drop free
        ∧ t.counters = { s.counters with vehiclesClosed := t.counters.vehiclesClosed }
        ∧ t.counters.vehiclesClosed.toNat = min (s.counters.vehiclesClosed.toNat + pieces.length) 65535
        ∧ t.assembler.history = s.assembler.history)

/-- What a close looks at is, in `u`, what it was in `s`, at the station time of the command. -/
structure State.ClosesAs (s : State) (dt : Time) (u : State) : Prop where
  now : u.now = s.now + dt
  straps : u.control.straps = s.control.straps
  calibration : u.control.calibration = s.control.calibration
  span : u.span = s.span
  counters : u.counters = s.counters
  tagCounter : u.assembler.tagCounter = s.assembler.tagCounter
  outbound : u.assembler.outbound = s.assembler.outbound
  closedQueue : u.assembler.closedQueue = s.assembler.closedQueue
  history : u.assembler.history = s.assembler.history

theorem recordOf_eq (origin : StationNo) (now : Time) (v : OpenVehicle) (seen stalled : Bool)
    (cause : CloseCause) (wasCut : Bool) :
    recordOf origin now { v with presenceSeen := seen, stallMark := v.stallMark || stalled } cause wasCut =
      fun (tag : Tag) (p : List Axle) =>
        ({ origin, tag
           firstStamp := (p.head?.map Axle.stamp).getD now
           firstRowB := earliest ((p.take 12).filterMap Axle.rowBStamp)
           speed := none, band := none, axleCount := min p.length 15, axles := p.take 12
           flags := { gap := p.any Axle.gap || v.carriedGap || cause == .discontinuity
                      oneSided := p.any Axle.oneSided, singleRow := p.any Axle.singleRow
                      split := v.carriedSplit || cause == .cut || wasCut
                      stalled := v.stallMark || stalled, axleOverflow := decide (12 < p.length)
                      saturated := false, tempOut := false }
           measuredGross := 0, assessedGross := 0, verdict := none, lightMark := false
           outcome := none, deadline := none, lastObjection := none, closeTime := now } : VehicleRecord) := by
  funext tag p
  have hhead : (p.take 12).head? = p.head? := by cases p <;> rfl
  simp [recordOf, hhead]

/-- A close leaves the vehicle in records, none open, and no last paired Δn. -/
theorem closeVehicle_closedInto {s u : State} {dt : Time} {v : OpenVehicle} {seen stalled : Bool}
    (hne : v.axles ≠ []) (hs : s.ClosesAs dt u)
    (hv : u.assembler.vehicle = some { v with presenceSeen := seen, stallMark := v.stallMark || stalled })
    (cause : CloseCause) :
    s.ClosedInto dt v stalled (cause == .discontinuity) (cause == .cut) (u.closeVehicle cause)
      ∧ (u.closeVehicle cause).assembler.vehicle = none
      ∧ (u.closeVehicle cause).former = { u.former with lastDn := none } := by
  have hpieces : u.closePieces v = s.closePieces v := by
    simp only [State.closePieces, State.maxAxleSpacing, State.defaultSpeed, State.laneOr, State.lane?,
      hs.calibration]
  obtain ⟨tags, hlen, htags, hclose⟩ := closeVehicle_axles hv hne cause
  rw [hclose]
  refine ⟨⟨tags, ?_, ?_, rfl, ?_⟩, rfl, rfl⟩
  · rw [← hpieces]; exact hlen
  · rw [← hs.span, ← hs.straps, ← hs.tagCounter]; exact htags
  · rw [← hpieces, ← hs.outbound, ← hs.closedQueue, ← hs.counters, ← hs.history, ← hs.straps, ← hs.now]
    dsimp only
    rw [recordOf_eq]
    exact ⟨rfl, rfl, rfl, bumpBy_toNat _ _, rfl⟩

/-- The station at a resting sample that finds the vehicle `w` open, before its tests. -/
def State.restedWith (s : State) (dt : Time) (e : FifoEntry) (rest : List FifoEntry) (w : OpenVehicle) : State :=
  { s.advance dt with
    port := { s.port with fifo := rest }, detector := s.detector.tracked e.reading
    assembler := { s.assembler with
      current := some ⟨e.index, s.now + dt⟩, presence := e.reading.presence, afterBreak := false
      vehicle := some w } }

theorem restedWith_closesAs (s : State) (dt : Time) (e : FifoEntry) (rest : List FifoEntry) (w : OpenVehicle) :
    s.ClosesAs dt (s.restedWith dt e rest w) := ⟨rfl, rfl, rfl, rfl, rfl, rfl, rfl, rfl, rfl⟩

/-- A resting sample whose tests close the vehicle, the former being empty. -/
theorem sampleConsume_closes {s : State} {dt : Time} {e : FifoEntry} {rest : List FifoEntry} {dn : Option Nat}
    {v : OpenVehicle} {seen stalled : Bool} (hfifo : s.port.fifo = e :: rest)
    (hmark : e.mark = .plain) (hgaps : e.gaps = 0) (hne : v.axles ≠ [])
    (hformer : s.former = { openA := none, openB := none, waitingB := [], pendingA := [], lastDn := dn })
    (hstep : exec (.sampleConsume dt) s = done (State.handleHorizon
      { (s.restedWith dt e rest { v with presenceSeen := seen, stallMark := v.stallMark || stalled }).closeVehicle
          .ordinary with detector := { s.detector.tracked e.reading with settled := some e.index } })) :
    Completes (.sampleConsume dt) s fun t =>
      s.ClosedInto dt v stalled false false t ∧ t.assembler.vehicle = none ∧ t.former.lastDn = none
      ∧ t.assembler.current = some ⟨e.index, s.now + dt⟩
      ∧ Elsewhere [.counters, .port, .detector, .former, .assembler] dt s t := by
  obtain ⟨hclosed, hvehicle, hf⟩ := closeVehicle_closedInto (stalled := stalled) (seen := seen) hne
    (restedWith_closesAs s dt e rest _) rfl .ordinary
  have hempty : ∀ u : State, u.former = (State.closeVehicle (s.restedWith dt e rest
      { v with presenceSeen := seen, stallMark := v.stallMark || stalled }) .ordinary).former →
      u.former = { openA := none, openB := none, waitingB := [], pendingA := [], lastDn := none } := by
    intro u hu
    rw [hu, hf]
    show ({ s.former with lastDn := none } : AxleFormer) = _
    rw [hformer]
  rw [handleHorizon_empty] at hstep
  · obtain ⟨hcurrent, helse⟩ := sampleConsume_forms hfifo hmark hgaps hstep
    exact completes_of_done hstep ⟨hclosed, hvehicle, congrArg AxleFormer.lastDn hf, hcurrent, helse⟩
  all_goals rw [hempty _ rfl]

/-- A head lost, all cleared but the vehicle that is open. -/
def State.headLostOpen (s : State) (dt : Time) : State :=
  { s.advance dt with
    port := s.port.lost, control := (s.advance dt).headLostControl, detector := s.detector.broken
    former := .reset }

/-- Settles O25: each cause closes the vehicle in the state that the command has made by then. -/
theorem vehiclesCloseIntoRecords : Obligations.VehiclesCloseIntoRecords := by
  intro s dt v hv hne own pieces closed
  refine ⟨?_, ?_⟩
  · intro e rest dn hfifo hmark hgaps hsame hcur hqueue hrest current
    have hrests := rests_of_forall hrest
    have hstep := exec_sampleConsume_atRest (dt := dt) hfifo hmark hgaps hrests hqueue
    rw [takeSample_open (v := v) (by exact hv) (by exact hsame) (by exact hcur)] at hstep
    refine ⟨fun hformer => ⟨fun hclear hreached => ?_, fun r hset hrun hreached => ?_⟩, ?_⟩
    · have hpres : e.reading.presence = false := by rw [hsame, hclear]
      have hreached' : reached e.index (s.assembler.quietStart v + 1024) = true := hreached
      rw [sampleTests_quiet (by rfl) ?_] at hstep
      · refine sampleConsume_closes (seen := v.presenceSeen || e.reading.presence) (stalled := false) hfifo hmark
          hgaps hne hformer (hstep.trans ?_)
        rw [Bool.or_false]
        rfl
      · rw [quietPasses_iff (c := current) (by rfl) (by exact hpres) (by simp [hformer, AxleFormer.isEmpty])]
        simpa [Assembler.quietStart, hpres] using hreached'
    · have hpres : e.reading.presence = true := by rw [hsame, hset]
      have hreached' : reached e.index (later r v.opening + span32 s.stuckSamples) = true := hreached
      rw [sampleTests_stall (by rfl) (quietPasses_present (by exact hpres) _) ?_
        (by simp [hformer, AxleFormer.isEmpty])] at hstep
      · refine sampleConsume_closes (seen := v.presenceSeen || e.reading.presence) (stalled := true) hfifo hmark
          hgaps hne hformer (hstep.trans ?_)
        rw [Bool.or_true]
        rfl
      · rw [stallPasses_eq (c := current) (r := r) (by rfl) (by exact hrun) (by exact hpres)]
        exact hreached'
    · intro a hlen hmark' hclear hload hclosed hformer hreached
      have hpres : e.reading.presence = false := by rw [hsame, hclear]
      rw [sampleTests_goesOn (by rfl) (quietPasses_formerBusy (by simp [hformer, AxleFormer.isEmpty]) _)
          (by exact hmark') (stallPasses_absent (by exact hpres) _),
        handleHorizon_expires (dn := dn) (a := a) (h := e.index) (by exact held_eq_false hload hclosed)
          (by simp [State.horizon, PulseDetector.tracked, hqueue]) (by exact hformer) (by exact hreached),
        takeAxle_splits (c := current) (by rfl) (by exact hlen) (by rfl) (by exact hpres),
        withReport_joined (c := current) (by rfl) ?_ (by rfl) (by rfl) (by rfl), singleA_eq] at hstep
      · obtain ⟨hcurrent, helse⟩ := sampleConsume_forms hfifo hmark hgaps hstep
        have hcloses := closeVehicle_closedInto (s := s) (dt := dt) (u := { s.restedWith dt e rest
            { v with presenceSeen := v.presenceSeen || e.reading.presence } with
            detector := { s.detector.tracked e.reading with settled := some e.index }
            former := { openA := none, openB := none, waitingB := [], pendingA := [], lastDn := dn } })
          (seen := v.presenceSeen || e.reading.presence) (stalled := false) hne
          ⟨rfl, rfl, rfl, rfl, rfl, rfl, rfl, rfl, rfl⟩ (by rw [Bool.or_false]; rfl) .cut
        obtain ⟨hinto, _, hf⟩ := hcloses
        exact completes_of_done hstep ⟨hinto, congrArg AxleFormer.lastDn hf, hcurrent, rfl, helse⟩
      · show (State.closeVehicle _ .cut).assembler.current = some current
        rw [(closeVehicle_forms _ .cut).assembler]
  · intro finish hready htimer hreached hclaims
    have hforms := closeVehicle_forms (s.headLostOpen dt) .discontinuity
    have hstep : exec (.headLostTimer dt) s = done
        { (s.headLostOpen dt).closeVehicle .discontinuity with
          assembler := ((s.headLostOpen dt).closeVehicle .discontinuity).assembler.broken } := by
      show done (headLostStep (s.advance dt)) = _
      rw [headLostStep_eq (s := s.advance dt) hready htimer hreached, dropUncoordinated_none]
      · rfl
      · show (State.closeVehicle (s.headLostOpen dt) .discontinuity).admission.claims = []
        rw [hforms.admission]
        exact hclaims
    obtain ⟨hinto, hvehicle, hf⟩ := closeVehicle_closedInto (s := s) (dt := dt) (u := s.headLostOpen dt)
      (seen := v.presenceSeen) (stalled := false) hne ⟨rfl, rfl, rfl, rfl, rfl, rfl, rfl, rfl, rfl⟩
      (by rw [Bool.or_false]; exact hv) .discontinuity
    refine completes_of_done hstep ⟨hinto, congrArg AxleFormer.lastDn hf, hvehicle, rfl, rfl, ?_, ?_⟩
    · exact congrArg SamplePort.head hforms.port
    · refine elsewhere_settle hforms.now hforms.pending fun p hp => ?_
      cases p <;> simp at hp
      · exact hforms.admission
      · exact hforms.span
      · exact hforms.line
      · rw [Part.same]; dsimp only; rw [hforms.sign]; rfl
      · exact hforms.handler

end Sys2Proof.Machine
end

section
/-! PROOFS. The weighing: factor, loads, assessment and verdict, and what an entry station hands on (04). -/

namespace Sys2Proof.Machine

/-! ## The factor between two nodes (04 R58) -/

/-- An interpolated value lies between the two that it is interpolated between. -/
theorem interpolate_bounds {v v₁ v₂ f₁ f₂ lo hi : Nat} (h1 : v₁ < v) (h2 : v < v₂) (hf1 : lo ≤ f₁ ∧ f₁ ≤ hi)
    (hf2 : lo ≤ f₂ ∧ f₂ ≤ hi) :
    let x := ((f₁ : Int) + roundHalfUpInt (((f₂ : Int) - f₁) * ((v : Int) - v₁)) (v₂ - v₁)).toNat
    lo ≤ x ∧ x ≤ hi := by
  obtain ⟨d, hd⟩ := Nat.exists_eq_add_of_lt h1
  obtain ⟨e, he⟩ := Nat.exists_eq_add_of_lt h2
  have hv : (v : Int) - v₁ = (d + 1 : Int) := by omega
  have hspan : v₂ - v₁ = d + e + 2 := by omega
  simp only [hv, hspan, roundHalfUpInt]
  have hpos : (0 : Int) < 2 * ((d + e + 2 : Nat) : Int) := by omega
  have hlow : (lo : Int) - f₁ ≤
      (2 * (((f₂ : Int) - f₁) * (d + 1)) + ((d + e + 2 : Nat) : Int)) / (2 * ((d + e + 2 : Nat) : Int)) := by
    rw [Int.le_ediv_iff_mul_le hpos]
    push_cast
    nlinarith [hf1.1, hf2.1]
  have hhigh : (2 * (((f₂ : Int) - f₁) * (d + 1)) + ((d + e + 2 : Nat) : Int)) / (2 * ((d + e + 2 : Nat) : Int))
      < (hi : Int) - f₁ + 1 := by
    rw [Int.ediv_lt_iff_lt_mul hpos]
    push_cast
    nlinarith [hf1.2, hf2.2]
  omega

theorem factorAt_first {v v₁ f₁ : Nat} (rest : List (Nat × Nat)) (h : v ≤ v₁) :
    factorAt v ((v₁, f₁) :: rest) = f₁ := by
  cases rest with
  | nil => rfl
  | cons q rest => exact if_pos h

theorem factorAt_later {v v₁ f₁ v₂ f₂ : Nat} (rest : List (Nat × Nat)) (h1 : v₁ < v) (h2 : v₂ ≤ v) :
    factorAt v ((v₁, f₁) :: (v₂, f₂) :: rest) = factorAt v ((v₂, f₂) :: rest) :=
  (if_neg (Nat.not_le.2 h1)).trans (if_neg (Nat.not_lt.2 h2))

theorem factorAt_bounds {lo hi : Nat} (v : Nat) : ∀ nodes : List (Nat × Nat), nodes ≠ [] →
    (∀ p ∈ nodes, lo ≤ p.2 ∧ p.2 ≤ hi) → lo ≤ factorAt v nodes ∧ factorAt v nodes ≤ hi
  | [], h, _ => absurd rfl h
  | [p], _, hb => hb p (by simp)
  | (v₁, f₁) :: (v₂, f₂) :: rest, _, hb => by
    have hb1 := hb (v₁, f₁) (by simp)
    have hb2 := hb (v₂, f₂) (by simp)
    rcases Nat.lt_or_ge v₁ v with h1 | h1
    · rcases Nat.lt_or_ge v v₂ with h2 | h2
      · rw [factorAt, if_neg (Nat.not_le.2 h1), if_pos h2]
        exact interpolate_bounds h1 h2 hb1 hb2
      · rw [factorAt_later rest h1 h2]
        exact factorAt_bounds v ((v₂, f₂) :: rest) (by simp) fun p hp => hb p (List.mem_cons_of_mem _ hp)
    · rw [factorAt_first _ h1]
      exact hb1

theorem factorAt_node : ∀ nodes : List (Nat × Nat), nodes.Pairwise (fun p q => p.1 < q.1) →
    ∀ p ∈ nodes, factorAt p.1 nodes = p.2
  | [], _, p, hp => absurd hp List.not_mem_nil
  | (v₁, f₁) :: rest, hs, p, hp => by
    rcases List.mem_cons.1 hp with rfl | hmem
    · exact factorAt_first rest (Nat.le_refl _)
    · obtain ⟨hfirst, hrest⟩ := List.pairwise_cons.1 hs
      cases rest with
      | nil => exact absurd hmem List.not_mem_nil
      | cons q rest =>
        have hq : q.1 ≤ p.1 := by
          rcases List.mem_cons.1 hmem with rfl | h
          · exact Nat.le_refl _
          · exact Nat.le_of_lt ((List.pairwise_cons.1 hrest).1 p h)
        rw [factorAt_later rest (hfirst p hmem) hq]
        exact factorAt_node (q :: rest) hrest p hmem

/-- Settles O29: by the list of nodes, for the bounds and for the nodes themselves. -/
theorem factorLiesBetweenItsNodes : Obligations.FactorLiesBetweenItsNodes :=
  fun v _ _ nodes hne hs hb => ⟨factorAt_bounds v nodes hne hb, factorAt_node nodes hs⟩

/-! ## Spacings (04 R65) -/

/-- An axle as it was assembled: without load and spacing. -/
def Axle.bare (x : Axle) : Axle := { x with load := none, spacing := none }

theorem withSpacings_bare (speed : Nat) (l : List Axle) : ∀ prev,
    (withSpacings speed prev l).map Axle.bare = l.map Axle.bare := by
  induction l with
  | nil => intro _; rfl
  | cons x l ih => intro prev; rw [withSpacings, List.map_cons, ih, List.map_cons]; rfl

theorem withSpacings_length (speed : Nat) (prev : Option Index) (l : List Axle) :
    (withSpacings speed prev l).length = l.length := by
  simpa using congrArg List.length (withSpacings_bare speed l prev)

theorem withSpacings_head (speed : Nat) (prev : Option Index) (l : List Axle) :
    (withSpacings speed prev l)[0]?.bind Axle.spacing
      = (prev.bind fun p => l[0]?.map fun x => spacingOf p x.reference speed) := by
  cases l <;> cases prev <;> rfl

theorem withSpacings_next (speed : Nat) (l : List Axle) : ∀ (prev : Option Index) (i : Nat) (a b : Axle),
    l[i]? = some a → l[i + 1]? = some b →
    (withSpacings speed prev l)[i + 1]?.bind Axle.spacing = some (spacingOf a.reference b.reference speed) := by
  induction l with
  | nil => intro _ i a b ha; cases ha
  | cons x l ih =>
    intro prev i a b ha hb
    rw [withSpacings, List.getElem?_cons_succ]
    rw [List.getElem?_cons_succ] at hb
    cases i with
    | zero =>
      cases ha
      rw [withSpacings_head, hb]
      rfl
    | succ i =>
      rw [List.getElem?_cons_succ] at ha
      exact ih _ i a b ha hb

theorem spacingOf_le (a b : Index) (speed : Nat) : spacingOf a b speed ≤ 65535 := Nat.min_le_right _ _

theorem withSpacings_spacing_le (speed : Nat) (l : List Axle) : ∀ (prev : Option Index),
    ∀ x ∈ withSpacings speed prev l, ∀ spacing, x.spacing = some spacing → spacing ≤ 65535 := by
  induction l with
  | nil => intro _ x hx; cases hx
  | cons a l ih =>
    intro prev
    rw [withSpacings, List.forall_mem_cons]
    refine ⟨fun spacing hs => ?_, ih _⟩
    obtain ⟨p, _, rfl⟩ := Option.map_eq_some_iff.1 hs
    exact spacingOf_le _ _ _

/-! ## The record to be weighed (04 R56, R57, R65) -/

/-- The record with its speed, band, spacings and TEMP_OUT: what a weighing knows before the loads. -/
def State.measured (s : State) (r : VehicleRecord) : VehicleRecord :=
  { r with
    speed := vehicleSpeed s.vMin s.vMax r.axles
    band := some (match s.lane? with
      | none => 1
      | some lane => bandOf lane.tempBounds ((r.axles.head?.map fun x => x.temperature.toInt).getD (-128)))
    axles := withSpacings ((vehicleSpeed s.vMin s.vMax r.axles).getD s.defaultSpeed) none r.axles
    flags := { r.flags with tempOut := r.flags.tempOut
      || (r.axles.head?.map fun x => x.temperature.toInt).getD (-128) == -128 } }

theorem weigh_loads {s : State} {r : VehicleRecord} {cal : Calibration} {v : Nat}
    (hc : s.control.calibration = some cal) (hv : vehicleSpeed s.vMin s.vMax r.axles = some v) :
    s.weigh r = weighLoads cal v (s.measured r) := by
  unfold State.weigh State.measured
  rw [hc, hv] <;> rfl

theorem weigh_nothing {s : State} {r : VehicleRecord}
    (h : s.control.calibration = none ∨ vehicleSpeed s.vMin s.vMax r.axles = none) :
    s.weigh r = weighNothing s.lightWheelbase (s.measured r) := by
  unfold State.weigh State.measured
  cases hc : s.control.calibration with
  | none => rfl
  | some cal =>
    have hv : vehicleSpeed s.vMin s.vMax r.axles = none := by simpa [hc] using h
    rw [hv] <;> rfl

/-- A weighing is of one of the two kinds, by whether there is a calibration and a speed (04 R55). -/
theorem weigh_cases (s : State) (r : VehicleRecord) :
    (∃ cal v, s.control.calibration = some cal ∧ vehicleSpeed s.vMin s.vMax r.axles = some v
        ∧ s.weigh r = weighLoads cal v (s.measured r))
    ∨ ((s.control.calibration = none ∨ vehicleSpeed s.vMin s.vMax r.axles = none)
        ∧ s.weigh r = weighNothing s.lightWheelbase (s.measured r)) := by
  cases hc : s.control.calibration with
  | none => exact .inr ⟨.inl rfl, weigh_nothing (.inl hc)⟩
  | some cal =>
    cases hv : vehicleSpeed s.vMin s.vMax r.axles with
    | none => exact .inr ⟨.inr rfl, weigh_nothing (.inr hv)⟩
    | some v => exact .inl ⟨cal, v, rfl, rfl, weigh_loads hc hv⟩

theorem weigh_speed (s : State) (r : VehicleRecord) : (s.weigh r).speed = vehicleSpeed s.vMin s.vMax r.axles := by
  rcases weigh_cases s r with ⟨cal, v, _, _, h⟩ | ⟨_, h⟩ <;> rw [h] <;> rfl

/-- The axles of a weighed record: those of the measured one with their loads. -/
theorem weighLoads_axles (cal : Calibration) (v : Nat) (r : VehicleRecord) :
    (weighLoads cal v r).axles =
      r.axles.map fun x => { x with load := some (axleLoad cal.lane (r.band.getD 1) v x).1 } := by
  rw [weighLoads]
  dsimp only
  rw [List.zipWith_map_right, List.zipWith_self]

theorem weighLoads_verdict (cal : Calibration) (v : Nat) (r : VehicleRecord) :
    (weighLoads cal v r).verdict ≠ some .unweighed := by
  have h : ∀ (site : SiteSection) (over' : Bool) (l : List Nat) (g : Nat), verdictOf site over' l g ≠ .unweighed := by
    intro site over' l g
    unfold verdictOf
    split
    · simp
    · split <;> simp
  exact fun e => h _ _ _ _ (Option.some.inj e)

theorem le_assess {t n : Nat} (h : n ≤ 65535) : n ≤ (assess t n).1 := by
  have hle : n ≤ (n * (100 + t) + 99) / 100 := by
    rw [Nat.le_div_iff_mul_le (by decide)]
    nlinarith
  exact le_min hle h

theorem assess_le (t n : Nat) : (assess t n).1 ≤ 65535 := Nat.min_le_right _ _

theorem axleLoad_le (lane : LaneSection) (band v : Nat) (x : Axle) : (axleLoad lane band v x).1 ≤ 65535 :=
  Nat.min_le_right _ _

/-- What a weighing adds to a record; the rest of it is as it was assembled. -/
theorem weigh_record (s : State) (r : VehicleRecord) :
    s.weigh r = { r with
      speed := (s.weigh r).speed, band := (s.weigh r).band, axles := (s.weigh r).axles
      flags := { r.flags with
        saturated := (s.weigh r).flags.saturated, tempOut := (s.weigh r).flags.tempOut }
      measuredGross := (s.weigh r).measuredGross, assessedGross := (s.weigh r).assessedGross
      verdict := (s.weigh r).verdict, lightMark := (s.weigh r).lightMark } := by
  rcases weigh_cases s r with ⟨cal, v, _, _, h⟩ | ⟨_, h⟩ <;> rw [h] <;> rfl

/-- The axles of a weighed record: those of the measured one, each with a load of at most 65 535. -/
theorem weigh_axles (s : State) (r : VehicleRecord) : ∃ load : Axle → Nat, (∀ x, load x ≤ 65535)
    ∧ (s.weigh r).axles = (s.measured r).axles.map fun x => { x with load := some (load x) } := by
  rcases weigh_cases s r with ⟨cal, v, _, _, h⟩ | ⟨_, h⟩
  · exact ⟨_, fun x => axleLoad_le _ _ _ _, by rw [h, weighLoads_axles]⟩
  · exact ⟨fun _ => 0, fun _ => Nat.zero_le _, by rw [h]; rfl⟩

theorem weigh_bare (s : State) (r : VehicleRecord) :
    (s.weigh r).axles.map Axle.bare = r.axles.map Axle.bare := by
  obtain ⟨load, _, h⟩ := weigh_axles s r
  rw [h, List.map_map]
  exact withSpacings_bare _ _ _

theorem weigh_load_le {s : State} {r : VehicleRecord} {x : Axle} {load : Nat} (hx : x ∈ (s.weigh r).axles)
    (hl : x.load = some load) : load ≤ 65535 := by
  obtain ⟨loadOf, hle, h⟩ := weigh_axles s r
  obtain ⟨y, _, rfl⟩ := List.mem_map.1 (h ▸ hx)
  cases hl
  exact hle y

theorem weigh_spacing_le {s : State} {r : VehicleRecord} {x : Axle} {spacing : Nat}
    (hx : x ∈ (s.weigh r).axles) (hs : x.spacing = some spacing) : spacing ≤ 65535 := by
  obtain ⟨loadOf, _, h⟩ := weigh_axles s r
  obtain ⟨y, hy, rfl⟩ := List.mem_map.1 (h ▸ hx)
  exact withSpacings_spacing_le _ _ _ y hy spacing hs

theorem weigh_gross (s : State) (r : VehicleRecord) :
    (s.weigh r).measuredGross ≤ (s.weigh r).assessedGross ∧ (s.weigh r).assessedGross ≤ 65535 := by
  rcases weigh_cases s r with ⟨cal, v, _, _, h⟩ | ⟨_, h⟩ <;> rw [h]
  · exact ⟨le_assess (Nat.min_le_right _ _), assess_le _ _⟩
  · exact ⟨Nat.le_refl _, Nat.zero_le _⟩

/-- A record is UNWEIGHED exactly where there is no calibration or no speed (04 R55, R66). -/
theorem weigh_unweighed_iff (s : State) (r : VehicleRecord) :
    (s.control.calibration = none ∨ (s.weigh r).speed = none) ↔ (s.weigh r).verdict = some .unweighed := by
  rw [weigh_speed]
  rcases weigh_cases s r with ⟨cal, v, hcal, hv, h⟩ | ⟨hnone, h⟩
  · rw [h]
    exact iff_of_false (by simp [hcal, hv]) (weighLoads_verdict _ _ _)
  · rw [h]
    exact iff_of_true hnone rfl

theorem weigh_unweighed {s : State} {r : VehicleRecord} (hv : (s.weigh r).verdict = some .unweighed) :
    s.weigh r = weighNothing s.lightWheelbase (s.measured r) := by
  have hnone := (weigh_unweighed_iff s r).2 hv
  rw [weigh_speed] at hnone
  exact weigh_nothing hnone

theorem weighNothing_loads (limit : Nat) (r : VehicleRecord) :
    (weighNothing limit r).measuredGross = 0 ∧ (weighNothing limit r).assessedGross = 0
      ∧ ∀ x ∈ (weighNothing limit r).axles, x.load = some 0 :=
  ⟨rfl, rfl, fun x hx => by obtain ⟨y, _, rfl⟩ := List.mem_map.1 hx; rfl⟩

/-! ## The weighing as a command (04 R53, R68) -/

/-- The Assembler once the head record has left the closed-vehicle queue (03 R51). -/
def Assembler.handedOn (a : Assembler) (rest : List VehicleRecord) : Assembler :=
  { a with closedQueue := rest ++ a.outbound.take (4 - rest.length), outbound := a.outbound.drop (4 - rest.length) }

/-- The head record leaves the queue weighed: an entry station lets it wait, an exit station takes it. -/
theorem weighingStep_eq {s : State} {r : VehicleRecord} {rest : List VehicleRecord} (hl : s.control.load = none)
    (hd : s.control.startStep = .done) (hw : s.admission.waiting = none) (hq : s.assembler.closedQueue = r :: rest) :
    weighingStep s =
      match s.control.straps.role with
      | .entry => { s with assembler := s.assembler.handedOn rest
                           admission := { s.admission with waiting := some (s.weigh r) } }
      | .exit => State.exitTake { s with assembler := s.assembler.handedOn rest } (s.weigh r) := by
  simp [weighingStep, hl, hd, hw, hq]
  rfl

/-- Settles O26: the parts of the weighed record, each by its own lemma. -/
theorem weighingHandsTheRecordOn : Obligations.WeighingHandsTheRecordOn := by
  intro s dt r rest hload hdone hwaiting hrole hqueue
  have hstep : exec (.weighing dt) s = done { s.advance dt with
      assembler := s.assembler.handedOn rest
      admission := { s.admission with waiting := some (s.weigh r) } } := by
    show done (weighingStep (s.advance dt)) = _
    rw [weighingStep_eq (s := s.advance dt) hload hdone hwaiting hqueue, State.advance_control, hrole]
    rfl
  have hrecord := weigh_record s r
  refine completes_of_done hstep ⟨rfl, elsewhere_of_same, rfl, s.weigh r, rfl,
    (congrArg VehicleRecord.origin hrecord :), (congrArg VehicleRecord.tag hrecord :),
    (congrArg VehicleRecord.firstStamp hrecord :), (congrArg VehicleRecord.firstRowB hrecord :),
    (congrArg VehicleRecord.axleCount hrecord :), (congrArg VehicleRecord.closeTime hrecord :),
    (congrArg VehicleRecord.outcome hrecord :), (congrArg VehicleRecord.flags hrecord :),
    weigh_bare s r, (weigh_gross s r).1, (weigh_gross s r).2, fun x hx load => weigh_load_le hx,
    fun x hx spacing => weigh_spacing_le hx, weigh_unweighed_iff s r, fun hv => ?_⟩
  rw [weigh_unweighed hv]
  exact weighNothing_loads _ _

/-! ## What a weighing computes (04 R56 to R67) -/

theorem measured_loads (s : State) (r : VehicleRecord) (lane : LaneSection) (band v : Nat) :
    (s.measured r).axles.map (axleLoad lane band v) = r.axles.map (axleLoad lane band v) := by
  have h := congrArg (List.map (axleLoad lane band v))
    (withSpacings_bare ((vehicleSpeed s.vMin s.vMax r.axles).getD s.defaultSpeed) r.axles none)
  rwa [List.map_map, List.map_map] at h

theorem vehicleSpeed_eq (vMin vMax : Nat) (axles : List Axle) :
    vehicleSpeed vMin vMax axles =
      if axles.filterMap Axle.speed = [] then none
      else some (min (max ((2 * (axles.filterMap Axle.speed).sum + (axles.filterMap Axle.speed).length)
        / (2 * (axles.filterMap Axle.speed).length)) vMin) vMax) := by
  unfold vehicleSpeed meanHalfUp
  split <;> split <;> simp_all [roundHalfUp]

/-- The verdict of R66 by its limits. -/
theorem verdictOf_eq (site : SiteSection) (overflow : Bool) (loads : List Nat) (gross : Nat) :
    verdictOf site overflow loads gross =
      if overflow = true ∨ (∃ a ∈ loads, site.axleLimit < a) ∨ site.grossLimit < gross then .overlimit
      else if site.claimThreshold ≤ gross then .heavy else .light := by
  simp [verdictOf, or_assoc]

theorem lightMarkOf_iff (limit axleCount : Nat) (axles : List Axle) :
    lightMarkOf limit axleCount axles = true ↔ axleCount = 2 ∧ axles.length = 2
      ∧ ∃ d, axles[1]?.bind Axle.spacing = some d ∧ d < limit := by
  match axles with
  | [] => simp [lightMarkOf]
  | [_] => simp [lightMarkOf]
  | [_, x] => cases h : x.spacing <;> simp [lightMarkOf, h]
  | _ :: _ :: _ :: _ => simp [lightMarkOf]

/-- The load of an axle in the words of R58 to R61. -/
theorem axleLoad_eq (lane : LaneSection) (band v : Nat) (x : Axle) :
    let clamp := fun n : Nat => min n 65535
    let u := x.speed.getD v
    let f := factorAt u (lane.nodes.zip (lane.factors.getD (band - 1) []))
    let estimate := fun (scale area : Nat) => clamp ((2 * (area * u * f) + scale * 16384) / (2 * (scale * 16384)))
    (axleLoad lane band v x).1 = clamp (axleSum
      (wheelLoad (x.al.map (estimate lane.scaleAL)) (x.bl.map (estimate lane.scaleBL)))
      (wheelLoad (x.ar.map (estimate lane.scaleAR)) (x.br.map (estimate lane.scaleBR)))) := by
  simp only [axleLoad, Option.map_map]
  rfl

/-- Settles O27: each number by the equation of the function that computes it. -/
theorem weighingComputesLoadsAndVerdict : Obligations.WeighingComputesLoadsAndVerdict := by
  intro s r w speeds clamp
  have hspeed : w.speed = vehicleSpeed s.vMin s.vMax r.axles := weigh_speed s r
  obtain ⟨load, _, haxles⟩ := weigh_axles s r
  have hspacing : ∀ i : Nat, (w.axles[i]?).bind Axle.spacing = ((s.measured r).axles[i]?).bind Axle.spacing := by
    intro i
    show ((s.weigh r).axles[i]?).bind _ = _
    rw [haxles, List.getElem?_map]
    cases (s.measured r).axles[i]? <;> rfl
  refine ⟨hspeed.trans (vehicleSpeed_eq _ _ _), ?_, ?_, ?_, ?_, ?_, ?_⟩
  · show (s.weigh r).axles.length = _
    rw [haxles, List.length_map]
    exact withSpacings_length _ _ _
  · intro x hx
    have hfirst := (hspacing 0).trans (withSpacings_head _ _ _)
    rw [hx] at hfirst
    exact hfirst
  · intro i a b ha hb
    rw [hspacing, hspeed]
    exact withSpacings_next _ _ _ i a b ha hb
  · have htemp : w.flags.tempOut = (s.measured r).flags.tempOut := by
      rcases weigh_cases s r with ⟨cal, v, _, _, h⟩ | ⟨_, h⟩ <;> exact congrArg (fun x => x.flags.tempOut) h
    rw [htemp]
    cases h : r.axles.head? <;> simp [State.measured, h]
  · intro cal v hcal hv band loadOf tolerance assessed exceeds
    have hw : w = weighLoads cal v (s.measured r) := weigh_loads hcal (hspeed ▸ hv)
    have hband : (s.measured r).band = some band := by simp [State.measured, State.lane?, hcal, band]
    have hload : ∀ x, (axleLoad cal.lane band v x).1 = loadOf x := by
      have hwheel : ∀ a b, wheelLoad a b = (match a, b with
          | some m, some n => some ((m + n + 1) / 2)
          | some m, none => some m
          | none, n => n) := by intro a b; cases a <;> cases b <;> rfl
      have hsum : ∀ l r, axleSum l r = (match l, r with
          | some m, some n => m + n
          | some m, none => 2 * m
          | none, some n => 2 * n
          | none, none => 0) := by intro l r; cases l <;> cases r <;> rfl
      intro x
      rw [axleLoad_eq, hsum, hwheel, hwheel] <;> rfl
    have hloads : ((s.measured r).axles.map (axleLoad cal.lane ((s.measured r).band.getD 1) v)) =
        r.axles.map (axleLoad cal.lane band v) := by
      rw [hband]; exact measured_loads _ _ _ _ _
    have hmap : (r.axles.map (axleLoad cal.lane band v)).map Prod.fst = r.axles.map loadOf := by
      rw [List.map_map]; exact List.map_congr_left fun x _ => hload x
    have hgross : w.measuredGross = clamp (r.axles.map loadOf).sum := by
      rw [hw, ← hmap, ← hloads]; rfl
    have hdegraded : w.flags.degraded = (s.measured r).flags.degraded := by rw [hw]; rfl
    have hassessed : w.assessedGross = assessed w.measuredGross := by
      show _ = clamp ((w.measuredGross * (100 + if w.flags.degraded = true then _ else _) + 99) / 100)
      rw [hdegraded, hw]
      rfl
    have hverdict : w.verdict = some (if exceeds then .overlimit
        else if cal.site.claimThreshold ≤ w.assessedGross then .heavy else .light) := by
      have : w.verdict = some (verdictOf cal.site r.flags.axleOverflow
          (r.axles.map fun x => assessed (loadOf x)) w.assessedGross) := by
        have htolerance : tolerance = if (s.measured r).flags.degraded = true then cal.site.degradedTolerance
            else cal.site.normalTolerance := by rw [← hdegraded]
        have hlist : ((((s.measured r).axles.map (axleLoad cal.lane ((s.measured r).band.getD 1) v)).map
            fun l => assess tolerance l.1).map Prod.fst) = r.axles.map fun x => assessed (loadOf x) := by
          rw [hloads, List.map_map, List.map_map]
          exact List.map_congr_left fun x _ => by rw [← hload]; rfl
        rw [← hlist, htolerance, hw]
        rfl
      rw [this, verdictOf_eq]
      simp only [List.mem_map, exists_exists_and_eq_and, exceeds]
    refine ⟨by rw [hw]; exact hband, ?_, hgross, hassessed, by rw [hw]; rfl, ?_, ?_, ?_⟩
    · have hsome := congrArg (List.map some) hmap
      rw [← hloads, List.map_map, List.map_map, List.map_map] at hsome
      rw [hw, weighLoads_axles, List.map_map]
      exact hsome
    · intro he; rw [hverdict, if_pos he]
    · intro he hc; rw [hverdict, if_neg he, if_pos hc]
    · intro he hc; rw [hverdict, if_neg he, if_neg (Nat.not_le.2 hc)]
  · intro hnone
    have hverdict := (weigh_unweighed_iff s r).1 hnone
    have hw := weigh_unweighed hverdict
    obtain ⟨hm, ha, hl⟩ := weighNothing_loads s.lightWheelbase (s.measured r)
    rw [← hw] at hm ha hl
    refine ⟨hverdict, hm, ha, hl, ?_⟩
    have hmark : w.lightMark = lightMarkOf s.lightWheelbase r.axleCount (s.measured r).axles :=
      congrArg VehicleRecord.lightMark hw
    rw [hmark, lightMarkOf_iff, hspacing]
    refine and_congr_right fun _ => and_congr_left fun _ => ?_
    show (withSpacings _ _ r.axles).length = 2 ↔ _
    rw [withSpacings_length]

end Sys2Proof.Machine
end

section
/-! PROOFS. The exit station: a weighed record is matched, reported or let pass (07). -/

namespace Sys2Proof.Machine

/-- With room in the queue a vehicle that had no claim joins the ring with its outcome, and its VERDICT the queue;
a diversion extends the sign hold (05 R77, R149). -/
theorem finishVehicle_room {s : State} (r : VehicleRecord) (o : VehicleOutcome) (h : s.line.txq.length < 8) :
    s.finishVehicle r o = { s with
      assembler := { s.assembler with history := pushHistory s.assembler.history { r with outcome := some o } }
      line := { s.line with txq := s.line.txq
        ++ [s.frameOf .verdict .ordinary (verdictPayload { r with outcome := some o })] }
      sign := if o.isDivert then s.divertNotice.sign else s.sign } := by
  have e := enqueue_room (s := s.remember { r with outcome := some o }) (kind := .verdict) (use := .ordinary)
    (payload := verdictPayload { r with outcome := some o }) h
  rw [insertFrame_verdict rfl] at e
  unfold State.finishVehicle State.announce
  dsimp only
  rw [e]
  cases o.isDivert <;> rfl

theorem insertFrame_nil (f : TxFrame) : insertFrame f [] = [f] := rfl

/-- A frame joins an empty queue, and then the VERDICT of a vehicle that is not diverted. -/
theorem enqueue_finishVehicle {s : State} (hq : s.line.txq = []) (kind : FrameKind) (payload : List Byte)
    (r : VehicleRecord) {o : VehicleOutcome} (ho : o.isDivert = false) :
    ∃ g v : TxFrame,
      (s.enqueue kind .ordinary payload).finishVehicle r o = { s with
        assembler := { s.assembler with history := pushHistory s.assembler.history { r with outcome := some o } }
        line := { s.line with txq := [g, v] } }
      ∧ g.bytes = frameBytes s.control.straps.number kind payload
      ∧ v.bytes = frameBytes s.control.straps.number .verdict (verdictPayload { r with outcome := some o }) := by
  refine ⟨s.frameOf kind .ordinary payload, State.frameOf
    { s with line := { s.line with txq := [s.frameOf kind .ordinary payload] } } .verdict .ordinary
    (verdictPayload { r with outcome := some o }), ?_, rfl, rfl⟩
  rw [enqueue_room (by rw [hq]; decide), hq, insertFrame_nil, finishVehicle_room _ _ (by simp), ho]
  rfl

theorem spanEnd_eq {s : State} {cal : Calibration} (h : s.control.calibration = some cal) :
    s.spanEnd = cal.lane.spanEnd := by simp [State.spanEnd, State.lane?, h]

/-- A record to be searched, with no entry that meets the conditions (07 R115). -/
theorem exitSearch_none {s : State} {site : SiteSection} {r : VehicleRecord} {stationEnd : SpanEnd}
    (hend : s.spanEnd = stationEnd) (h : ∀ x ∈ s.span.entries, exitMatches site stationEnd r x = false) :
    s.exitSearch site r = s.exitUnmatched r := by
  subst hend
  have hnone : s.span.entries.find? (exitMatches site s.spanEnd r) = none :=
    List.find?_eq_none.2 fun x hx => by simp [h x hx]
  unfold State.exitSearch
  rw [hnone]

/-- The oldest entry that meets the conditions is marked, and a DEPART goes for it (07 R113). -/
theorem exitSearch_first {s : State} {site : SiteSection} {r : VehicleRecord} {before after : List SpanEntry}
    {e : SpanEntry} {stationEnd : SpanEnd} (hend : s.spanEnd = stationEnd)
    (hs : s.span.entries = before ++ e :: after)
    (hb : ∀ x ∈ before, exitMatches site stationEnd r x = false) (he : exitMatches site stationEnd r e = true)
    (ha : e ∉ after) :
    s.exitSearch site r = (State.enqueue { s with span := { s.span with
      entries := before ++ { e with departing := true } :: after } } .depart .ordinary
        (departPayload e.origin e.tag 1)).finishVehicle r .exitMatched := by
  subst hend
  have hfind : s.span.entries.find? (exitMatches site s.spanEnd r) = some e := by
    rw [hs, List.find?_append, List.find?_eq_none.2 fun x hx => by simp [hb x hx]]
    simp [he]
  have hnot : e ∉ before := fun h => by simp [hb e h] at he
  have hkept : ∀ l : List SpanEntry, e ∉ l →
      l.map (fun x => if x = e then { x with departing := true } else x) = l := by
    intro l hl
    conv => rhs; rw [← List.map_id l]
    exact List.map_congr_left fun x hx => if_neg (by rintro rfl; exact hl hx)
  have hmark : s.span.markDeparting e = { s.span with
      entries := before ++ { e with departing := true } :: after } := by
    unfold SpanTable.markDeparting
    rw [hs, List.map_append, List.map_cons, hkept _ hnot, hkept _ ha, if_pos rfl]
  unfold State.exitSearch
  rw [hfind, ← hmark]

/-- A HEAVY or OVERLIMIT record at or above the claim threshold is searched (07 R111). -/
theorem exitTake_searched {s : State} {cal : Calibration} {r : VehicleRecord}
    (hc : s.control.calibration = some cal) (hv : r.verdict = some .heavy ∨ r.verdict = some .overlimit)
    (ht : cal.site.claimThreshold ≤ r.assessedGross) : s.exitTake r = s.exitSearch cal.site r := by
  have hsite : s.site? = some cal.site := by simp [State.site?, hc]
  unfold State.exitTake
  rw [hsite]
  rcases hv with hv | hv <;> rw [hv] <;> exact if_neg (Nat.not_lt.2 ht)

/-- A record below the threshold passes (07 R114). -/
theorem exitTake_light {s : State} {cal : Calibration} {r : VehicleRecord} {v : Verdict}
    (hc : s.control.calibration = some cal) (hv : r.verdict = some v) (hu : v ≠ .unweighed)
    (ht : r.assessedGross < cal.site.claimThreshold) : s.exitTake r = s.finishVehicle r .exitLight := by
  have hsite : s.site? = some cal.site := by simp [State.site?, hc]
  unfold State.exitTake
  rw [hsite, hv]
  cases v with
  | unweighed => exact absurd rfl hu
  | light => exact if_pos ht
  | heavy => exact if_pos ht
  | overlimit => exact if_pos ht

theorem exitTake_unweighed {s : State} {r : VehicleRecord} (hv : r.verdict = some .unweighed) :
    s.exitTake r = if r.lightMark then s.finishVehicle r .exitLight else s.exitUnmatched r := by
  unfold State.exitTake
  rw [hv]

theorem weigh_verdict_isSome (s : State) (r : VehicleRecord) : ∃ v, (s.weigh r).verdict = some v := by
  rcases weigh_cases s r with ⟨cal, v, _, _, h⟩ | ⟨_, h⟩ <;> rw [h] <;> exact ⟨_, rfl⟩

/-- The five conditions of R112. -/
theorem exitMatches_iff {site : SiteSection} {stationEnd : SpanEnd} {r : VehicleRecord} {x : SpanEntry} :
    exitMatches site stationEnd r x = true ↔
      x.entryEnd ≠ stationEnd ∧ x.departing = false ∧ x.axleCount = r.axleCount
        ∧ ((r.measuredGross : Int) - x.measuredGross).natAbs * 100 ≤ site.matchTolerance * x.measuredGross
        ∧ (site.minTransit * 100 : Int) ≤ modDiff r.firstStamp x.admission := by
  simp [exitMatches, and_assoc]

/-- Settles O28: the record is searched, reported or let pass, and finished with its VERDICT. -/
theorem exitMatchesTheOldestEntry : Obligations.ExitMatchesTheOldestEntry := by
  intro s dt r rest hload hdone hwaiting hrole hqueue htxq w number qualifies searched finished
  have hstep : exec (.weighing dt) s = done (State.exitTake
      { s.advance dt with assembler := s.assembler.handedOn rest } w) := by
    show done (weighingStep (s.advance dt)) = _
    rw [weighingStep_eq (s := s.advance dt) hload hdone hwaiting hqueue, State.advance_control, hrole]
    rfl
  have hno : ∀ (cal : Calibration) (x : SpanEntry), ¬ qualifies cal x →
      exitMatches cal.site cal.lane.spanEnd w x = false := fun cal x hx =>
    Bool.eq_false_iff.2 fun h => hx (exitMatches_iff.1 h)
  refine ⟨?_, ?_, ?_⟩
  · intro cal before after e ⟨hcal, hverdict, hthreshold⟩ hentries hbefore hfirst hafter
    obtain ⟨d, v, hfinish, hd, hv⟩ := enqueue_finishVehicle (s := { s.advance dt with
        assembler := s.assembler.handedOn rest
        span := { s.span with entries := before ++ { e with departing := true } :: after } })
      htxq .depart (departPayload e.origin e.tag 1) w (o := .exitMatched) rfl
    rw [exitTake_searched (by exact hcal) hverdict hthreshold, exitSearch_first (e := e) (spanEnd_eq (by exact hcal))
      (by exact hentries) (fun x hx => hno cal x (hbefore x hx)) (exitMatches_iff.2 hfirst) hafter] at hstep
    refine completes_of_done (hstep.trans (congrArg done hfinish)) ⟨rfl, ⟨d, v, rfl, ⟨rfl, hv⟩, hd⟩,
      elsewhere_of_same⟩
  · intro h
    have hunmatched : State.exitTake { s.advance dt with assembler := s.assembler.handedOn rest } w =
        State.exitUnmatched { s.advance dt with assembler := s.assembler.handedOn rest } w := by
      rcases h with ⟨cal, ⟨hcal, hverdict, hthreshold⟩, hnone⟩ | ⟨hverdict, hmark⟩
      · rw [exitTake_searched (by exact hcal) hverdict hthreshold, exitSearch_none (spanEnd_eq (by exact hcal))]
        exact fun x hx => hno cal x (hnone x hx)
      · rw [exitTake_unweighed hverdict, if_neg (by simp [hmark])]
    obtain ⟨g, v, hfinish, hg, hv⟩ := enqueue_finishVehicle (s := { s.advance dt with
        assembler := s.assembler.handedOn rest })
      htxq .report (unmatchedPayload w) w (o := .exitUnmatched) rfl
    exact completes_of_done (hstep.trans (congrArg done (hunmatched.trans hfinish)))
      ⟨⟨g, v, rfl, ⟨rfl, hv⟩, hg⟩, elsewhere_of_same⟩
  · intro h
    have hlight : State.exitTake { s.advance dt with assembler := s.assembler.handedOn rest } w =
        State.finishVehicle { s.advance dt with assembler := s.assembler.handedOn rest } w .exitLight := by
      rcases h with ⟨cal, hcal, hverdict, hthreshold⟩ | ⟨hverdict, hmark⟩
      · obtain ⟨v, hv⟩ := weigh_verdict_isSome s r
        exact exitTake_light (by exact hcal) hv (fun e => hverdict (hv.trans (congrArg some e))) hthreshold
      · rw [exitTake_unweighed hverdict, if_pos hmark]
    rw [hlight, finishVehicle_room _ _ (by simp [htxq])] at hstep
    refine completes_of_done hstep ⟨⟨State.frameOf s .verdict .ordinary
      (verdictPayload { w with outcome := some .exitLight }), ?_, rfl, rfl⟩, elsewhere_of_same⟩
    show ({ s.line with txq := s.line.txq ++ _ } : LineControl) = _
    rw [htxq, List.nil_append]
    rfl

end Sys2Proof.Machine
end

section
/-! PROOFS. The Admission Unit: vehicles finished, claims placed, offered, timed out (05). -/

namespace Sys2Proof.Machine

/-! ## The pre-check of the head claim (05 R79) -/

/-- A WAITING head claim that may be offered has its CLAIM queued where there is room. -/
theorem preCheck_offers {s : State} {c : Claim} {rest : List Claim} (hc : s.admission.claims = c :: rest)
    (hw : c.state = .waiting) (ho : s.offerable c = true) (hr : s.line.txq.length < 8) :
    s.preCheck = { s with
      admission := { s.admission with claims := { c with state := .offeredQueued } :: rest }
      line := { s.line with
        txq := insertFrame (s.frameOf .claim .ordinary (claimPayload c.vehicle c.dwell s.spanEnd)) s.line.txq } } := by
  have hroom : s.hasRoom .claim = true := by
    simp only [State.hasRoom, Bool.or_eq_true, decide_eq_true_eq]
    exact .inl hr
  unfold State.preCheck
  rw [hc]
  simp [hw, ho, hroom, putFrame_room hr, State.setHeadClaim, hc]

/-- In a full queue it takes the place of the youngest frame that gives way. -/
theorem preCheck_displaces {s : State} {c : Claim} {rest : List Claim} {d : TxFrame}
    (hc : s.admission.claims = c :: rest) (hw : c.state = .waiting) (ho : s.offerable c = true)
    (hr : 8 ≤ s.line.txq.length) (hd : s.line.youngestDroppable = some d) (hu : d.use ≠ .replay) :
    s.preCheck = { s.countDrop with
      admission := { s.admission with claims := { c with state := .offeredQueued } :: rest }
      line := { s.line with
        txq := insertFrame (s.frameOf .claim .ordinary (claimPayload c.vehicle c.dwell s.spanEnd))
          (s.line.txq.erase d) } } := by
  have hroom : s.hasRoom .claim = true := by simp [State.hasRoom, FrameKind.droppable, hd]
  unfold State.preCheck
  rw [hc]
  simp [hw, ho, hroom, putFrame_displaces (kind := .claim) hr rfl hd, State.setHeadClaim, hc, State.replayAfter, hu]

theorem offerable_iff {s : State} {c : Claim} {cal : Calibration} (hcal : s.control.calibration = some cal) :
    s.offerable c = true ↔ s.coordinated = true ∧ s.sign.closure = .opened
      ∧ claimTest cal.site s.span c.vehicle.assessedGross = none := by
  simp [State.offerable, claimPasses_iff hcal, and_assoc]

/-! ## Records finished at acceptance (05 R72, R73, R77) -/

/-- The sign hold that the finishing of a vehicle at a command leaves (09 R149). -/
def State.holdAfter (s : State) (dt : Time) (o : VehicleOutcome) : Option Time :=
  if o.isDivert then
    some ((s.sign.holdUntil.map fun h => later h (s.now + dt + span32 (s.signHold * 1000))).getD
      (s.now + dt + span32 (s.signHold * 1000)))
  else s.sign.holdUntil

/-- The state in which ACCEPT_RECORD looks at the record. -/
def State.accepting (s : State) (dt : Time) : State :=
  { s.advance dt with admission := { s.admission with waiting := none } }

theorem divertNotice_sign {s : State} {dt : Time} {u : State} (hs : u.sign = s.sign) (hn : u.now = s.now + dt)
    (hc : u.control.calibration = s.control.calibration) (o : VehicleOutcome) :
    (if o.isDivert then u.divertNotice.sign else u.sign) = { s.sign with holdUntil := s.holdAfter dt o } := by
  have hh : u.signHold = s.signHold := by simp [State.signHold, State.siteOr, State.site?, hc]
  unfold State.holdAfter
  cases o.isDivert with
  | false => simp [hs]
  | true => simp [divertNotice_eq, hs, hh, State.after, hn]

/-- With room a record is finished at acceptance: its ring copy, its VERDICT, the sign hold. -/
theorem accepting_finishes {s : State} {dt : Time} (r : VehicleRecord) (o : VehicleOutcome)
    (h : s.line.txq.length < 8) :
    (s.accepting dt).finishVehicle r o = { s.accepting dt with
      assembler := { s.assembler with history := pushHistory s.assembler.history { r with outcome := some o } }
      line := { s.line with txq := s.line.txq
        ++ [(s.accepting dt).frameOf .verdict .ordinary (verdictPayload { r with outcome := some o })] }
      sign := { s.sign with holdUntil := s.holdAfter dt o } } := by
  rw [finishVehicle_room _ _ (by exact h), ← divertNotice_sign (s := s) (dt := dt) (u := s.accepting dt) rfl rfl rfl o]
  rfl

/-- The vehicle is finished, its VERDICT not yet placed. -/
theorem finishVehicle_full {s : State} (r : VehicleRecord) (o : VehicleOutcome) (h : 8 ≤ s.line.txq.length) :
    s.finishVehicle r o =
      (let u := ((s.remember { r with outcome := some o }).countDrop).preCheck
       { u with sign := if o.isDivert then u.divertNotice.sign else u.sign }) := by
  unfold State.finishVehicle State.announce
  dsimp only
  rw [enqueue_discarded (by exact h) (.inl rfl)]
  cases o.isDivert <;> rfl

theorem plainOutcome_eq {closure : Closure} {v : Verdict} (hv : v ≠ .heavy) (mark : Bool) :
    plainOutcome closure v mark =
      if v = .light ∨ v = .unweighed ∧ mark = true then .proceed
      else if closure ≠ .opened then .divertClosed
      else if v = .overlimit then .divertLimit else .divertUnweighed := by
  cases v with
  | heavy => exact absurd rfl hv
  | light => rfl
  | overlimit => by_cases hc : closure = .opened <;> simp [plainOutcome, hc]
  | unweighed => cases mark <;> by_cases hc : closure = .opened <;> simp [plainOutcome, hc]

theorem acceptHeavy_closed {s : State} {r : VehicleRecord} (h : s.sign.closure ≠ .opened) :
    s.acceptHeavy r = s.finishVehicle r .divertClosed := by simp [State.acceptHeavy, h]

theorem acceptRecordStep_eq {s : State} {r : VehicleRecord} {v : Verdict} (hw : s.admission.waiting = some r)
    (hf : s.claimInFlight = false) (hv : r.verdict = some v) :
    acceptRecordStep s =
      if v = .heavy then State.acceptHeavy { s with admission := { s.admission with waiting := none } } r
      else State.finishVehicle { s with admission := { s.admission with waiting := none } } r
        (plainOutcome s.sign.closure v r.lightMark) := by
  unfold acceptRecordStep
  rw [hw]
  dsimp only
  rw [hf, hv]
  cases v <;> rfl

/-- Settles O30: the record is finished; a VERDICT that finds no room leads to the pre-check of R79. -/
theorem plainRecordsAreFinished : Obligations.PlainRecordsAreFinished := by
  intro s dt r v o hwaiting hflight hverdict hplain ho number givesWay finished
  have hstep : exec (.acceptRecord dt) s = done ((s.accepting dt).finishVehicle r o) := by
    show done (acceptRecordStep (s.advance dt)) = _
    have hno : (s.advance dt).claimInFlight = false := by simp [State.claimInFlight, hflight]
    rw [acceptRecordStep_eq (s := s.advance dt) hwaiting hno hverdict]
    by_cases hv : v = .heavy
    · have hclosed : s.sign.closure ≠ .opened := hplain.resolve_left (not_not.2 hv)
      have ho' : o = .divertClosed := by simp [ho, hv, hclosed]
      rw [if_pos hv, acceptHeavy_closed (by exact hclosed), ho']
      rfl
    · rw [if_neg hv, ho]
      exact congrArg (fun x => done ((s.accepting dt).finishVehicle r x)) (plainOutcome_eq hv _)
  have hdivert : o.isDivert = true ↔ o ≠ .proceed := by
    rw [ho]
    split
    · decide
    · split
      · decide
      · split <;> decide
  have hfinished : ∀ u : State,
      u.assembler = { s.assembler with history := pushHistory s.assembler.history { r with outcome := some o } } →
      u.sign = { s.sign with holdUntil := s.holdAfter dt o } → finished u.settle := by
    intro u ha hs
    have hhold : u.settle.sign.holdUntil = s.holdAfter dt o := by rw [settle_sign, hs]
    refine ⟨ha, fun h => ?_, fun h hnone => ?_, fun t h hsome => ?_, ?_⟩
    · rw [hhold, State.holdAfter, if_neg fun hd => hdivert.1 hd h]
    · rw [hhold, State.holdAfter, if_pos (hdivert.2 h), hnone]
      rfl
    · rw [hhold, State.holdAfter, if_pos (hdivert.2 h), hsome]
      rfl
    · rw [hhold]
      exact Part.same_settle (by rw [Part.same, hs])
  have hfull : 8 ≤ s.line.txq.length → exec (.acceptRecord dt) s = done
      { State.preCheck (State.countDrop (State.remember (s.accepting dt) { r with outcome := some o })) with
        sign := if o.isDivert then (State.preCheck (State.countDrop (State.remember (s.accepting dt)
          { r with outcome := some o }))).divertNotice.sign
          else (State.preCheck (State.countDrop (State.remember (s.accepting dt)
            { r with outcome := some o }))).sign } := by
    intro h
    rw [hstep, finishVehicle_full _ _ (by exact h)]
  have hflying : ∀ (l : LineControl) (g : TxFrame), l.inFlight = none → (l.givesWay g = true ↔ givesWay g) := by
    intro l g hl
    simp [givesWay_iff, hl, givesWay]
  refine ⟨fun hroom => ?_, fun h8 hrests => ?_, fun c rest d h8 hc hw hoff hd hgives hreplay hyoung => ?_⟩
  · rw [accepting_finishes _ _ hroom] at hstep
    exact completes_of_done hstep ⟨hfinished _ rfl rfl, rfl, ⟨_, rfl, rfl, rfl⟩, elsewhere_of_same⟩
  · have hrest : State.headRests (State.countDrop (State.remember (s.accepting dt) { r with outcome := some o })) := by
      intro c hc
      rcases hrests c hc with h | h | h
      · exact .inl h
      · exact .inr (.inl h)
      · refine .inr (.inr ?_)
        have hnone : s.line.youngestDroppable = none := youngestDroppable_none fun g hg =>
          Bool.eq_false_iff.2 fun hg' => h g hg ((hflying _ _ hflight).1 hg')
        have hlen : ¬ s.line.txq.length < txCapacity := Nat.not_lt.2 h8
        simp [State.hasRoom, State.accepting, hnone, hlen]
    have hexec := hfull h8
    rw [preCheck_rests hrest, divertNotice_sign (s := s) (dt := dt) (by rfl) (by rfl) (by rfl)] at hexec
    exact completes_of_done hexec ⟨hfinished _ rfl rfl, rfl, rfl, elsewhere_of_same⟩
  · have hyoungest : s.line.youngestDroppable = some d := youngestDroppable_some hd ((hflying _ _ hflight).2 hgives)
      fun g hg hg' hne => hyoung g hg ((hflying _ _ hflight).1 hg') hne
    have hexec := hfull h8
    rw [preCheck_displaces (by exact hc) hw (by exact hoff) (by exact h8) (by exact hyoungest) hreplay,
      divertNotice_sign (s := s) (dt := dt) (by rfl) (by rfl) (by rfl)] at hexec
    exact completes_of_done hexec ⟨hfinished _ rfl rfl, rfl, rfl, ⟨_, rfl, rfl, rfl⟩, elsewhere_of_same⟩

end Sys2Proof.Machine
end

section
/-! PROOFS. A HEAVY record becomes a claim; a claim's timers; deadline and dwell (05 R73 to R76, R85 to R87). -/

namespace Sys2Proof.Machine

/-! ## Deadline and dwell (05 R74, R75) -/

theorem deadlineOf_eq {distance v : Nat} {stamp : Time} {r : VehicleRecord} (hs : r.firstRowB = some stamp)
    (hv : r.speed = some v) : deadlineOf distance r = stamp + span32 (distance * 1000 / v) := by
  simp [deadlineOf, hs, hv]

/-- Settles O34: the quotients and their bounds. -/
theorem deadlineAndDwellFollowTheSpeed : Obligations.DeadlineAndDwellFollowTheSpeed := by
  refine ⟨fun distance v stamp r hs hv hd h1000 => ?_, fun site far speed hspeed href hcap => ?_⟩
  · have hle : distance * 1000 / v ≤ 3000000 :=
      Nat.div_le_of_le_mul (by nlinarith : distance * 1000 ≤ v * 3000000)
    refine ⟨deadlineOf_eq hs hv, ?_, hle⟩
    rw [deadlineOf_eq hs hv, BitVec.add_comm, BitVec.add_sub_cancel]
    exact (BitVec.toNat_ofNat _ _).trans (Nat.mod_eq_of_lt (Nat.lt_of_le_of_lt hle (by decide)))
  · intro dwell v distance
    have hv : 0 < v * 100 := by
      have : 1 ≤ v := le_min hspeed href
      omega
    have hdwell : dwell = min (max (ceilDiv distance (v * 100)) 1) site.dwellCap := rfl
    refine ⟨?_, ?_, rfl, fun h => ?_, fun h => ?_⟩
    · omega
    · omega
    · have hle : ceilDiv distance (v * 100) ≤ dwell := by omega
      rw [Nat.mul_comm]
      exact (ceilDiv_le_iff hv).1 hle
    · have hlt : ¬ ceilDiv distance (v * 100) ≤ dwell - 1 := by omega
      rw [Nat.mul_comm]
      exact Nat.lt_of_not_le fun hle => hlt ((ceilDiv_le_iff hv).2 hle)

/-! ## The place of a claim (05 R76) -/

/-- A claim stands after those whose deadline is not later, where the next one's is. -/
theorem insertClaim_after {c : Claim} {before after : List Claim}
    (hb : ∀ d ∈ before, 0 ≤ modDiff c.deadline d.deadline)
    (ha : ∀ d ∈ after.head?, modDiff c.deadline d.deadline < 0) :
    insertClaim c (before ++ after) = before ++ c :: after := by
  induction before with
  | nil =>
    cases after with
    | nil => rfl
    | cons d after => exact if_neg (Int.not_le.2 (ha d rfl))
  | cons d before ih =>
    rw [List.cons_append, insertClaim, if_pos (hb d (by simp)), ih fun e he => hb e (by simp [he])]
    rfl

/-- The queue of claims and the transmit queue once a new head may be placed: `former` and `freed` are what is
left of `s` after the head's frame has been called back (05 R76). -/
def State.MadeWay (s : State) (deadline : Time) (former : List Claim) (freed : List TxFrame) : Prop :=
  s.admission.claims = [] ∧ former = [] ∧ freed = s.line.txq
  ∨ ∃ d others, s.admission.claims = d :: others ∧ modDiff deadline d.deadline < 0
    ∧ (d.state ≠ .offeredQueued ∧ former = d :: others ∧ freed = s.line.txq
      ∨ d.state = .offeredQueued ∧ former = { d with state := .waiting } :: others
        ∧ freed = s.line.txq.filter (fun g => g.kind ≠ .claim))

theorem placed_head {s : State} {c : Claim} {former : List Claim} {freed : List TxFrame}
    (h : s.MadeWay c.deadline former freed) :
    s.placesHead c = true ∧ s.placed c = { s with
      admission := { s.admission with claims := c :: former }
      line := { s.line with txq := freed }
      assembler := { s.assembler with history := pushHistory s.assembler.history c.vehicle } } := by
  have hcons : ∀ (d : Claim) (l : List Claim), modDiff c.deadline d.deadline < 0 →
      insertClaim c (d :: l) = c :: d :: l := fun d l hd => if_neg (Int.not_le.2 hd)
  rcases h with ⟨hc, rfl, rfl⟩ | ⟨d, others, hc, hd, hstate⟩
  · have hplaces : s.placesHead c = true := by simp [State.placesHead, hc]
    refine ⟨hplaces, ?_⟩
    unfold State.placed
    rw [if_pos hplaces]
    simp [State.displaceHead, hc, insertClaim, State.remember]
  · have hplaces : s.placesHead c = true := by simp [State.placesHead, hc, hd]
    refine ⟨hplaces, ?_⟩
    unfold State.placed
    rw [if_pos hplaces]
    rcases hstate with ⟨hs, rfl, rfl⟩ | ⟨hs, rfl, rfl⟩
    · simp [State.displaceHead, hc, hs, hcons d others hd, State.remember]
    · have hfilter : (s.line.txq.filter fun g => g.kind != .claim) = s.line.txq.filter fun g => g.kind ≠ .claim :=
        List.filter_congr fun g _ => by by_cases hk : g.kind = .claim <;> simp [hk]
      simp only [State.displaceHead, hc, hs, if_true, State.setHeadClaim, State.removeClaimFrame, State.remember,
        List.tail_cons, hcons _ others (show modDiff c.deadline ({ d with state := .waiting } : Claim).deadline < 0
          from hd), hfilter]

theorem placed_behind {s : State} {c : Claim} {before after : List Claim}
    (hc : s.admission.claims = before ++ after) (hne : before ≠ [])
    (hb : ∀ d ∈ before, 0 ≤ modDiff c.deadline d.deadline)
    (ha : ∀ d ∈ after.head?, modDiff c.deadline d.deadline < 0) :
    s.placesHead c = false ∧ s.placed c = { s with
      admission := { s.admission with claims := before ++ c :: after }
      assembler := { s.assembler with history := pushHistory s.assembler.history c.vehicle } } := by
  have hplaces : s.placesHead c = false := by
    cases before with
    | nil => exact absurd rfl hne
    | cons d before =>
      have hd : ¬ modDiff c.deadline d.deadline < 0 := Int.not_lt.2 (hb d (by simp))
      simp [State.placesHead, hc, hd]
  refine ⟨hplaces, ?_⟩
  unfold State.placed
  rw [if_neg (by simp [hplaces])]
  dsimp only
  rw [hc, insertClaim_after hb ha]
  rfl

/-- A claim whose deadline has not come is placed, and pre-checked as the new head. -/
theorem placeClaim_early {s : State} {c : Claim} (h : reached s.now c.deadline = false) :
    s.placeClaim c = if s.placesHead c then (s.placed c).preCheck else s.placed c := by
  have hnow : (s.placed c).now = s.now := by
    unfold State.placed State.displaceHead
    split
    · split
      · rfl
      · split <;> rfl
    · rfl
  rw [placeClaim_eq, hnow, h]
  rfl

/-! ## HEAVY records (05 R73) -/

/-- The claim of an accepted record. -/
def claimOf (cal : Calibration) (r : VehicleRecord) (deadline : Time) (v : Nat) : Claim :=
  { vehicle := { r with deadline := some deadline }, deadline, state := .waiting
    dwell := dwellOf cal.site cal.lane.farDistance v, objectionSeen := false, lastObjection := none
    lateMark := none }

/-- R73's rows for a coordinated station with closure OPEN. -/
theorem acceptHeavy_coordinated {s : State} {r : VehicleRecord} {cal : Calibration} {stamp : Time} {v : Nat}
    (ho : s.sign.closure = .opened) (hc : s.coordinated = true) (hcal : s.control.calibration = some cal)
    (hs : r.firstRowB = some stamp) (hv : r.speed = some v) :
    let deadline := stamp + span32 (cal.lane.decisionDistance * 1000 / v)
    s.acceptHeavy r =
      if reached r.closeTime deadline then s.finishVehicle { r with deadline := some deadline } .divertLate
      else if 4 ≤ s.admission.claims.length then s.finishVehicle { r with deadline := some deadline } .divertQueue
      else s.placeClaim (claimOf cal r deadline v) := by
  have hspeed : r.speed.getD 0 = v := by rw [hv]; rfl
  unfold State.acceptHeavy
  rw [ho, hc, hcal]
  dsimp only
  rw [deadlineOf_eq hs hv, hspeed]
  rfl

theorem acceptHeavy_uncoordinated {s : State} {r : VehicleRecord} (ho : s.sign.closure = .opened)
    (hc : s.coordinated = false) : s.acceptHeavy r = s.finishVehicle r .divertUncoordinated := by
  unfold State.acceptHeavy
  rw [ho, hc]
  rfl

/-- Settles O31: by the rows of R73, and by the place of the claim. -/
theorem heavyRecordBecomesAClaim : Obligations.HeavyRecordBecomesAClaim := by
  intro s dt r hwaiting hflight hverdict hopen number finished
  have hstep : exec (.acceptRecord dt) s = done ((s.accepting dt).acceptHeavy r) := by
    show done (acceptRecordStep (s.advance dt)) = _
    rw [acceptRecordStep_eq (s := s.advance dt) hwaiting hflight hverdict, if_pos rfl]
    rfl
  have hfinished : ∀ (x : VehicleRecord) (o : VehicleOutcome), o.isDivert = true →
      (s.accepting dt).acceptHeavy r = (s.accepting dt).finishVehicle x o → finished x o := by
    intro x o ho heq hroom
    rw [heq, accepting_finishes _ _ hroom] at hstep
    refine completes_of_done hstep ⟨rfl, rfl, ⟨_, rfl, rfl, rfl⟩, Part.same_settle ?_, elsewhere_of_same⟩
    simp [Part.same, State.holdAfter, ho]
    rfl
  refine ⟨fun huncoordinated => hfinished _ _ rfl
    (acceptHeavy_uncoordinated (by exact hopen) (by exact huncoordinated)), ?_⟩
  intro cal stamp deadline v claim hcoordinated hcal hstamp hspeed hdeadline hclaim
  have hrows := acceptHeavy_coordinated (s := s.accepting dt) hopen hcoordinated hcal hstamp hspeed
  have hclaim' : claim = claimOf cal r deadline v := hclaim
  dsimp only at hrows
  rw [show stamp + span32 (cal.lane.decisionDistance * 1000 / v) = deadline from hdeadline.symm, ← hclaim'] at hrows
  have hvehicle : claim.vehicle = { r with deadline := some deadline } := by rw [hclaim]
  refine ⟨fun hlate => ?_, fun hearly hfull => ?_, fun hearly hfew hnotyet => ?_⟩
  · rw [hvehicle]
    exact hfinished _ _ rfl (by rw [hrows, if_pos hlate])
  · rw [hvehicle]
    exact hfinished _ _ rfl (by rw [hrows, if_neg (by simp [hearly]), if_pos (by exact hfull)])
  · have hdl : claim.deadline = deadline := by rw [hclaim]
    have hplace : (s.accepting dt).acceptHeavy r = if (s.accepting dt).placesHead claim
        then ((s.accepting dt).placed claim).preCheck else (s.accepting dt).placed claim := by
      rw [hrows, if_neg (by simp [hearly]), if_neg (by show ¬ 4 ≤ s.admission.claims.length; omega),
        placeClaim_early (by rw [hdl]; exact hnotyet)]
    refine ⟨fun former freed hway hroom => ?_, fun before after hsplit hne hbefore hafter => ?_⟩
    · obtain ⟨hhead, hplaced⟩ := placed_head (s := s.accepting dt) (c := claim) (former := former) (freed := freed)
        (by rw [hdl]; exact hway)
      rw [hplace, if_pos hhead, hplaced] at hstep
      have hwaits : claim.state = .waiting := by rw [hclaim]
      have hassessed : claim.vehicle.assessedGross = r.assessedGross := by rw [hclaim]
      have hend : s.spanEnd = cal.lane.spanEnd := spanEnd_eq hcal
      have hoffer : ∀ u : State, u.coordinated = s.coordinated → u.sign = s.sign → u.span = s.span →
          u.control = s.control → (u.offerable claim = true ↔ claimTest cal.site s.span r.assessedGross = none) := by
        intro u h1 h2 h3 h4
        rw [offerable_iff (h4 ▸ hcal), h1, h2, h3, hassessed]
        simp [hcoordinated, hopen]
      by_cases htest : claimTest cal.site s.span r.assessedGross = none
      · rw [preCheck_offers (by rfl) hwaits ((hoffer _ (by rfl) (by rfl) (by rfl) (by rfl)).2 htest)
          (by exact hroom)] at hstep
        refine completes_of_done hstep ⟨rfl, fun _ => ⟨rfl, _, rfl, rfl, ?_⟩, fun h => absurd htest h,
          elsewhere_of_same⟩
        rw [← hend]
        rfl
      · rw [preCheck_rests] at hstep
        · exact completes_of_done hstep ⟨rfl, fun h => absurd h htest, fun _ => ⟨rfl, rfl⟩, elsewhere_of_same⟩
        · intro c hc
          cases hc
          exact .inr (.inl (Bool.eq_false_iff.2 fun h =>
            htest ((hoffer _ (by rfl) (by rfl) (by rfl) (by rfl)).1 h)))
    · obtain ⟨hhead, hplaced⟩ := placed_behind (s := s.accepting dt) (c := claim) hsplit hne
        (by rw [hdl]; exact hbefore) (by rw [hdl]; exact hafter)
      rw [hplace, if_neg (by simp [hhead]), hplaced] at hstep
      exact completes_of_done hstep ⟨rfl, rfl, elsewhere_of_same⟩

/-! ## Timers of a claim (05 R85 to R87) -/

theorem find_claim_head {s : State} {c : Claim} {rest : List Claim} (h : s.admission.claims = c :: rest) :
    s.admission.claims.find? (fun d => d.vehicle.tag == c.vehicle.tag) = some c := by
  simp [h]

/-- The back-off of the head claim that has ended. -/
theorem backoffExpiryStep_head {s : State} {c : Claim} {others : List Claim} {finish : Time}
    (hc : s.admission.claims = c :: others) (hd : ∀ d ∈ others, d.vehicle.tag ≠ c.vehicle.tag)
    (hs : c.state = .backoff finish) (hr : reached s.now finish = true) :
    backoffExpiryStep s c.vehicle.tag = State.preCheck { s with
      admission := { s.admission with claims := { c with state := .waiting } :: others } } := by
  unfold backoffExpiryStep
  rw [find_claim_head hc]
  dsimp only
  rw [hs]
  dsimp only
  rw [if_pos hr, mapClaim_head hc hd]
  simp [State.isHeadClaim]

/-- Settles O32: the head claim waits again, and the pre-check offers it if it may. -/
theorem backoffEndsInWaiting : Obligations.BackoffEndsInWaiting := by
  intro s dt finish c others hc hd hs hr hroom
  have hstep : exec (.backoffExpiry dt c.vehicle.tag) s = done (State.preCheck { s.advance dt with
      admission := { s.admission with claims := { c with state := .waiting } :: others } }) := by
    show done (backoffExpiryStep (s.advance dt) c.vehicle.tag) = _
    rw [backoffExpiryStep_head (s := s.advance dt) hc hd hs hr]
    rfl
  cases ho : s.offerable c with
  | true =>
    rw [preCheck_offers (by rfl) (by rfl) (by exact ho) (by exact hroom)] at hstep
    exact completes_of_done hstep ⟨fun h => (nomatch h), fun _ => ⟨rfl, _, rfl, rfl, rfl⟩, elsewhere_of_same⟩
  | false =>
    rw [preCheck_rests] at hstep
    · exact completes_of_done hstep ⟨fun _ => ⟨rfl, rfl⟩, fun h => (nomatch h), elsewhere_of_same⟩
    · intro d hd'
      cases hd'
      exact .inr (.inl ho)

/-- A deadline of the head claim. -/
theorem deadlineExpiryStep_head {s : State} {c : Claim} {rest : List Claim} (hc : s.admission.claims = c :: rest)
    (hl : c.lateMark = none) (hr : reached s.now c.deadline = true) :
    deadlineExpiryStep s c.vehicle.tag =
      if c.state = .offeredInFlight then s.markLate c else (s.endClaim c c.lateOutcome).preCheck := by
  unfold deadlineExpiryStep
  rw [find_claim_head hc]
  simp [hr, hl, State.isHeadClaim, hc]

theorem lateOutcome_isDivert (c : Claim) : c.lateOutcome.isDivert = true := by
  unfold Claim.lateOutcome; split <;> rfl

/-- A claim's vehicle diverted from a state that has come from `s` by its claims and its transmit queue only. -/
theorem finishClaim_settle {s : State} {dt : Time} {c : Claim} {o : VehicleOutcome} {q : List TxFrame}
    (a : Admission) (hq : q.length < 8) (ho : o.isDivert = true) :
    let t := (State.finishClaim { s.advance dt with admission := a, line := { s.line with txq := q } } c o).settle
    t.assembler = { s.assembler with history := s.assembler.history.map fun h =>
        if h.tag = c.vehicle.tag then { h with outcome := some o, lastObjection := c.lastObjection } else h }
      ∧ (∃ f, f.kind = .verdict
        ∧ f.bytes = frameBytes s.control.straps.number .verdict
            (verdictPayload { c.vehicle with outcome := some o, lastObjection := c.lastObjection })
        ∧ t.line = { s.line with txq := q ++ [f] })
      ∧ Part.sign.same { s with sign := { s.sign with holdUntil := s.holdAfter dt o } } t
      ∧ t.admission = a ∧ Elsewhere [.assembler, .admission, .line, .sign] dt s t := by
  intro t
  obtain ⟨hring, hline, hsign⟩ := divertedClaim_settle (s := s) (dt := dt) (c := c)
    (w := { s.advance dt with admission := a, line := { s.line with txq := q } }) ho hq rfl rfl rfl rfl rfl
  have hdone := finishClaim_room (s := { s.advance dt with admission := a, line := { s.line with txq := q } }) c o hq
  refine ⟨hring, hline, ?_, ?_, ?_⟩
  · rw [State.holdAfter, if_pos ho]
    exact hsign
  · show (State.finishClaim _ c o).admission = a
    rw [hdone]
  · show Elsewhere _ dt s (State.finishClaim _ c o).settle
    rw [hdone]
    exact elsewhere_of_same

/-- Settles O33: the claim leaves or is late-marked, and its vehicle is finished either way. -/
theorem deadlineDivertsTheVehicle : Obligations.DeadlineDivertsTheVehicle := by
  intro s dt c o hc hl hr hroom ho
  have ho' : o = c.lateOutcome := ho
  subst ho'
  have hdivert := lateOutcome_isDivert c
  have hstep : exec (.deadlineExpiry dt c.vehicle.tag) s = done
      (if c.state = .offeredInFlight then (s.advance dt).markLate c
        else ((s.advance dt).endClaim c c.lateOutcome).preCheck) := by
    show done (deadlineExpiryStep (s.advance dt) c.vehicle.tag) = _
    rw [deadlineExpiryStep_head (s := s.advance dt) hc hl hr]
  have hsign : ∀ t : State, Part.sign.same { s with sign := { s.sign with
      holdUntil := s.holdAfter dt c.lateOutcome } } t →
      (s.sign.holdUntil = none → t.sign.holdUntil = some (s.now + dt + BitVec.ofNat 32 (s.signHold * 1000)))
        ∧ Part.sign.same { s with sign := { s.sign with holdUntil := t.sign.holdUntil } } t := by
    intro t h
    obtain ⟨_, _, _, _, _, _, hhold, _, _⟩ := (Part.same_sign_iff _ _).1 h
    refine ⟨fun hnone => ?_, ?_⟩
    · rw [hhold]
      simp [State.holdAfter, hdivert, hnone]
      rfl
    · rw [hhold]
      exact h
  split at hstep
  · next hs =>
    obtain ⟨hring, hline, hhold, hadmission, helse⟩ := finishClaim_settle (s := s) (dt := dt) (c := c)
      { s.admission with claims := [{ c with lateMark := some c.lateOutcome, vehicle := c.finished c.lateOutcome }] }
      hroom hdivert
    rw [State.markLate, mapClaim_head (rest := []) (by exact hc) (by simp)] at hstep
    refine completes_of_done hstep ⟨fun _ => congrArg Admission.claims hadmission, fun h => absurd hs h,
      (congrArg Admission.waiting hadmission :), hring, ?_, (hsign _ hhold).1, (hsign _ hhold).2, helse⟩
    obtain ⟨f, hkind, hbytes, hl⟩ := hline
    exact ⟨f, hkind, hbytes, by rw [if_neg (by simp [hs])]; exact hl⟩
  · next hs =>
    have hlen : (s.txqWithout c).length < 8 := Nat.lt_of_le_of_lt (txqWithout_length_le s c) hroom
    obtain ⟨hring, hline, hhold, hadmission, helse⟩ := finishClaim_settle (s := s) (dt := dt) (c := c)
      { s.admission with claims := [] } hlen hdivert
    have hfilter : (s.advance dt).admission.claims.filter (fun d => d.vehicle.tag != c.vehicle.tag) = [] := by
      simp [hc]
    rw [endClaim_eq _ _ hl, hfilter, preCheck_none] at hstep
    · refine completes_of_done hstep ⟨fun h => absurd h hs, fun _ => congrArg Admission.claims hadmission,
        (congrArg Admission.waiting hadmission :), hring, ?_, (hsign _ hhold).1, (hsign _ hhold).2, helse⟩
      obtain ⟨f, hkind, hbytes, hl⟩ := hline
      exact ⟨f, hkind, hbytes, by rw [← txqWithout_grounded hs]; exact hl⟩
    · rw [finishClaim_room _ _ (by exact hlen)]

end Sys2Proof.Machine
end

section
/-! PROOFS. The Span Table's and the sign's timers, the closure input, the lamps and the starts (06; 09; 10 R163). -/

namespace Sys2Proof.Machine

/-! ## Timers of the view (06 R102, R106) -/

/-- The entry with a key is the first that has it. -/
theorem find_split {t : SpanTable} {before after : List SpanEntry} {e : SpanEntry}
    (hs : t.entries = before ++ e :: after) (hb : ∀ x ∈ before, ¬ (x.origin = e.origin ∧ x.tag = e.tag)) :
    t.find e.origin e.tag = some e ∧ t.remove e = { t with
      entries := before ++ after, sum := t.sum - e.assessedGross, count := t.count - 1 } := by
  have hnot : e ∉ before := fun h => hb e h ⟨rfl, rfl⟩
  have hnone : before.find? (·.hasKey e.origin e.tag) = none :=
    List.find?_eq_none.2 fun x hx => by simpa [SpanEntry.hasKey] using hb x hx
  refine ⟨?_, ?_⟩
  · unfold SpanTable.find
    rw [hs, List.find?_append, hnone]
    simp [SpanEntry.hasKey]
  · unfold SpanTable.remove
    rw [hs, List.erase_append_right _ hnot, List.erase_cons_head]

/-- With no claim held an entry leaves the view and nothing else follows. -/
theorem removeEntry_noClaims {s : State} (h : s.admission.claims = []) (e : SpanEntry) :
    s.removeEntry e = { s with span := s.span.remove e } := preCheck_none (by exact h)

/-- Settles O36: the entry leaves by its key; learning's timer sets the mode. -/
theorem entriesAndLearningExpire : Obligations.EntriesAndLearningExpire := by
  refine ⟨?_, ?_⟩
  · intro s dt before after e hmode hclaims hroom hs hb hr
    obtain ⟨hfind, hremove⟩ := find_split hs hb
    have hmode' : (s.control.mode == .failed) = false := by simp [hmode]
    have hstep : exec (.entryExpiry dt e.origin e.tag) s = done
        (if e.origin = s.control.straps.number then
          State.enqueue { s.advance dt with span := s.span.remove e } .report .ordinary (overduePayload e)
        else { s.advance dt with span := s.span.remove e }) := by
      show done (entryExpiryStep (s.advance dt) e.origin e.tag) = _
      have hr' : reached (s.advance dt).now e.expiry = true := hr
      unfold entryExpiryStep
      dsimp only
      rw [State.advance_control, hmode', State.advance_span, hfind]
      dsimp only
      rw [if_neg Bool.false_ne_true, if_pos hr', removeEntry_noClaims (by exact hclaims)]
      rfl
    by_cases ho : e.origin = s.control.straps.number
    · rw [if_pos ho, enqueue_room (by exact hroom)] at hstep
      exact completes_of_done hstep ⟨hremove, fun h => absurd ho h, fun _ => ⟨_, rfl, rfl, rfl⟩, elsewhere_of_same⟩
    · rw [if_neg ho] at hstep
      exact completes_of_done hstep ⟨hremove, fun _ => rfl, fun h => absurd h ho, elsewhere_of_same⟩
  · intro s dt l hmode hlearning hr
    have hr' : reached (s.advance dt).now l.finish = true := hr
    have hstep : exec (.learningTimerExpiry dt) s = done { s.advance dt with
        control := { s.control with mode := .active, learning := none } } := by
      show done (learningTimerExpiryStep (s.advance dt)) = _
      simp [learningTimerExpiryStep, hmode, hlearning, hr']
    exact completes_of_done hstep ⟨rfl, elsewhere_of_same⟩

/-! ## Closure input and sign timers (09 R143 to R149) -/

theorem enterHeld_none {s : State} (hh : s.sign.closure ≠ .held) (hc : s.admission.claims = []) :
    s.enterHeld = { s with sign := { s.sign with closure := .held, reopenTimer := none } } := by
  have hh' : (s.sign.closure == .held) = false := by simp [hh]
  unfold State.enterHeld
  rw [hh', if_neg Bool.false_ne_true]
  dsimp only
  rw [hc, endClaims_nil]

/-- The debounced level acts once the raw level has stood 20 ms at the other level. -/
theorem closeInDebouncedStep_acts {s : State} (hd : s.sign.rawCloseIn ≠ s.sign.closeIn)
    (hr : reached s.now (s.sign.rawSince + 20) = true) :
    closeInDebouncedStep s = if s.sign.rawCloseIn then s.closeInAsserted else s.closeInReleased := by
  have hr' : reached s.now (s.sign.rawSince + span32 debounceTime) = true := hr
  simp [closeInDebouncedStep, hd, hr']

/-- Settles O51: the edge, and either level of the debounced input. -/
theorem closeInActsAfterItsDebounce : Obligations.CloseInActsAfterItsDebounce := by
  refine ⟨?_, ?_, ?_⟩
  · intro s dt level hne
    have hstep : exec (.closeInEdge dt level) s = done { s.advance dt with
        sign := { s.sign with rawCloseIn := level, rawSince := s.now + dt } } := by
      show done (closeInEdgeStep (s.advance dt) level) = _
      unfold closeInEdgeStep
      rw [if_neg (by exact hne)]
      rfl
    exact completes_of_done hstep ⟨Part.same_settle (by rfl), elsewhere_of_same⟩
  · intro s dt hraw hcloseIn hr hnotHeld hclaims
    have hstep : exec (.closeInDebounced dt) s = done { s.advance dt with
        sign := { s.sign with closeIn := true, closure := .held, reopenTimer := none }
        line := if s.control.mode = .failed then s.line else s.line.demandHold } := by
      show done (closeInDebouncedStep (s.advance dt)) = _
      rw [closeInDebouncedStep_acts (s := s.advance dt) (by simp [hraw, hcloseIn]) hr, State.advance_sign, hraw,
        if_pos rfl]
      unfold State.closeInAsserted
      dsimp only [State.advance_control]
      by_cases hm : s.control.mode = .failed
      · rw [if_pos (by simp [hm]), if_pos hm, enterHeld_none (by exact hnotHeld) (by exact hclaims)]
        rfl
      · rw [if_neg (by simp [hm]), if_neg hm, enterHeld_none (by exact hnotHeld) (by exact hclaims)]
        rfl
    exact completes_of_done hstep ⟨Part.same_settle (by rfl), fun hm => if_pos hm, fun hm => if_neg hm,
      elsewhere_of_same⟩
  · intro s dt hraw hcloseIn hr hheld
    have hstep : exec (.closeInDebounced dt) s = done (if s.line.phase = .hold then { s.advance dt with
          sign := { s.sign with closeIn := false }, line := { s.line with holdDemand := false } }
        else { s.advance dt with
          sign := { s.sign with
            closeIn := false, closure := .reopening
            reopenTimer := some (s.now + dt + span32 (s.reopenTime * 1000)) }
          line := { s.line with holdDemand := false } }) := by
      show done (closeInDebouncedStep (s.advance dt)) = _
      rw [closeInDebouncedStep_acts (s := s.advance dt) (by simp [hraw, hcloseIn]) hr, State.advance_sign, hraw,
        if_neg Bool.false_ne_true]
      unfold State.closeInReleased State.lineHeld
      by_cases hp : s.line.phase = .hold <;> simp [hp, hheld]
      rfl
    by_cases hp : s.line.phase = .hold
    · rw [if_pos hp] at hstep
      exact completes_of_done hstep ⟨rfl, fun _ => Part.same_settle (by rfl), fun h => absurd hp h, elsewhere_of_same⟩
    · rw [if_neg hp] at hstep
      exact completes_of_done hstep ⟨rfl, fun h => absurd h hp, fun _ => Part.same_settle (by rfl), elsewhere_of_same⟩

/-- Settles O52: each timer's step, once its time is reached. -/
theorem signTimersExpire : Obligations.SignTimersExpire := by
  refine ⟨?_, ?_, ?_⟩
  · intro s dt finish hclosure htimer hr
    have hr' : reached (s.advance dt).now finish = true := hr
    have hstep : exec (.reopenTimerExpiry dt) s = done { s.advance dt with
        sign := { s.sign with closure := .opened, reopenTimer := none, longHold := false } } := by
      show done (reopenTimerExpiryStep (s.advance dt)) = _
      simp [reopenTimerExpiryStep, hclosure, htimer, State.expired, hr']
    exact completes_of_done hstep ⟨Part.same_settle (by rfl), elsewhere_of_same⟩
  · intro s dt start htimer hr
    have hr' : reached (s.advance dt).now (start + span32 longHoldTime) = true := hr
    have hstep : exec (.longHoldTimer dt) s = done { s.advance dt with
        sign := { s.sign with longHold := true } } := by
      show done (longHoldTimerStep (s.advance dt)) = _
      simp [longHoldTimerStep, htimer, hr']
    exact completes_of_done hstep ⟨Part.same_settle (by rfl), elsewhere_of_same⟩
  · intro s dt finish htimer hr
    have hr' : reached (s.advance dt).now finish = true := hr
    have hstep : exec (.holdUntilReached dt) s = done { s.advance dt with
        sign := { s.sign with holdUntil := none } } := by
      show done (holdUntilReachedStep (s.advance dt)) = _
      simp [holdUntilReachedStep, htimer, State.expired, hr']
    exact completes_of_done hstep ⟨Part.same_settle (by rfl), elsewhere_of_same⟩

/-! ## Lamps (09 R150) -/

theorem disagreement_eq (command current : Bool) :
    disagreement command current = if command = current then none else some (if current then .lit else .dark) := by
  cases command <;> cases current <;> rfl

/-- The mark of a lamp that goes on disagreeing stays. -/
theorem settle_mark_stays (l : LampState) (now : Time) {command check : Bool} {k : Disagreement}
    (hc : check = true) (hd : disagreement command l.current = some k) (hm : l.mark = true) :
    (l.settle now command check).mark = true := by
  rw [hc, LampState.settle_disagrees l now command k hd]
  exact hm

/-- Settles O53: how the lamp settles by its disagreement, and what its expiry raises. -/
theorem lampDisagreementsAreTimedAndReported : Obligations.LampDisagreementsAreTimedAndReported := by
  refine ⟨?_, ?_⟩
  · intro s dt current hcheck
    have hstep : exec (.lampFeedbackChange dt .divert current) s = done { s.advance dt with
        sign := { s.sign with divert := { s.sign.divert with current } } } := rfl
    refine completes_of_done hstep ⟨Part.same_settle (by rfl), fun hagree => ?_, fun hdis => ?_, elsewhere_of_same⟩
    · have hquiet := LampState.settle_quiet { s.sign.divert with current } (s.now + dt) s.divertCommand s.lampCheck
        (.inr hagree)
      exact ⟨congrArg LampState.mark hquiet, congrArg LampState.timer hquiet⟩
    · intro kind
      have hk : disagreement s.divertCommand current = some kind := by rw [disagreement_eq, if_neg hdis]
      have hset := (congrArg (LampState.settle { s.sign.divert with current } (s.now + dt) s.divertCommand)
        hcheck).trans (LampState.settle_disagrees { s.sign.divert with current } (s.now + dt) s.divertCommand kind hk)
      refine ⟨(congrArg LampState.mark hset :), _, (congrArg LampState.timer hset :), ?_, ?_, ?_, ?_⟩
      · cases h : s.sign.divert.timer with
        | none => rfl
        | some old =>
          dsimp only
          split
          · assumption
          · rfl
      · intro h; simp [h]
      · intro old h hkind; simp [h, hkind]
      · intro old h hkind; simp [h, hkind]
  · intro s dt lamp timer detail hcheck htimer hmark hr hdis hsense hroom hdetail
    have hdetail' : detail = signFaultDetail lamp timer.kind := by
      rw [hdetail]
      cases lamp <;> cases timer.kind <;> rfl
    have hstep : exec (.lampDisagreementExpiry dt lamp) s = done (State.enqueue { s.advance dt with
        sign := s.sign.setLamp lamp { s.sign.lamp lamp with mark := true }
        control := { s.control with sense := some ⟨.signFault, detail, none, s.now + dt⟩ } }
        .report .ordinary (signFaultPayload detail)) := by
      have hr' : reached (s.advance dt).now (timer.start + span32 disagreementTime) = true := hr
      show done (lampDisagreementExpiryStep (s.advance dt) lamp) = _
      unfold lampDisagreementExpiryStep
      dsimp only [State.advance_sign]
      rw [htimer]
      dsimp only
      rw [hr', hmark, if_pos (by exact hcheck), ← hdetail', raise_eq]
      simp [hsense]
      rfl
    rw [enqueue_room (by exact hroom)] at hstep
    refine completes_of_done hstep ⟨?_, rfl, ⟨_, rfl, rfl, rfl⟩, elsewhere_of_same ?_ ?_ ?_⟩
    · cases lamp with
      | divert => exact settle_mark_stays { s.sign.divert with mark := true } (s.now + dt) hcheck hdis rfl
      | closed => exact settle_mark_stays { s.sign.closed with mark := true } (s.now + dt) hcheck hdis rfl
    · rfl
    · rfl
    · intro p hp
      cases lamp <;> cases p <;> simp at hp <;> rfl

/-! ## Starts (10 R163) -/

/-- Settles O54: every value of a start, and what a RESTART keeps. -/
theorem startsBeginFromPowerOnValues : Obligations.StartsBeginFromPowerOnValues := by
  refine ⟨fun s pins => ?_, fun s pins hdue => ?_⟩
  · exact completes_of_done (u := s.started pins false) rfl
      ⟨rfl, rfl, rfl, rfl, rfl, rfl, rfl, rfl, rfl, rfl, rfl, rfl, rfl⟩
  · have hstep : exec (.restart pins) s = done (s.restarted pins) := by
      show done (restartStep s pins) = _
      simp [restartStep, hdue]
    exact completes_of_done hstep ⟨rfl, rfl, rfl, rfl, rfl, rfl, rfl, rfl, rfl, rfl, rfl, rfl, rfl⟩

end Sys2Proof.Machine
end

section
/-! PROOFS. Start-up and the calibration load (10). -/

namespace Sys2Proof.Machine

/-! ## The self-test and the head wait (10 R154 to R156) -/

/-- The frame in flight, of no claim and not the isolation frame, is driven no further: nothing else follows. -/
theorem endAttempt_noClaim {s : State}
    (h : ∀ x, s.line.inFlight = some x → x.frame.kind ≠ .claim ∧ x.frame.use ≠ .isolation) :
    s.endAttempt = { s with line := { s.line with
      inFlight := none, rx := { s.line.rx with own := s.line.rx.own && s.line.inFlight.isNone } } } := by
  cases hx : s.line.inFlight with
  | none =>
    have hsame : ({ s.line with
        inFlight := none, rx := { s.line.rx with own := s.line.rx.own && true } } : LineControl) = s.line := by
      rw [Bool.and_true, ← hx]
    rw [endAttempt_none hx]
    show s = { s with line := _ }
    rw [Option.isNone_none, hsame]
  | some x =>
    obtain ⟨hk, hu⟩ := h x hx
    rw [endAttempt_plain hx hk hu, Option.isNone_some, Bool.and_false]
    rfl

/-- The line of a station that enters FAILED: nothing is queued, driven or demanded (10 R155, log 16). -/
def LineControl.cut (l : LineControl) : LineControl :=
  { l with
    txq := [], holdDemand := false, inFlight := none
    rx := { l.rx with own := l.rx.own && l.inFlight.isNone }
    response := l.response.map fun r => { r with stopped := true } }

/-- The failed state of a station without claims. -/
theorem failedState_noClaims {s : State} (hc : s.admission.claims = []) (hs : s.control.sense = none)
    (h : ∀ x, s.line.inFlight = some x → x.frame.kind ≠ .claim ∧ x.frame.use ≠ .isolation) :
    s.failedState = { s with
      control := { s.control with
        mode := .failed, sense := some ⟨.selfTest, s.control.mask.toByte, none, s.now⟩ }
      span := s.span.clear, line := s.line.cut, handler := { s.handler with replay := none } } := by
  unfold State.failedState State.failing
  dsimp only
  rw [endAttempt_noClaim (by exact h), dropUncoordinated_none (by exact hc), raise_eq]
  simp only [hs, Option.getD_none, if_true]
  rfl

/-- The mask that a self-test leaves. -/
def SelfTestMask.tested (m : SelfTestMask) (f : SelfTestFailures) : SelfTestMask :=
  { m with memTable := f.memTable, memHistory := f.memHistory, memQueue := f.memQueue, lineLoop := f.lineLoop }

theorem selfTestStep_eq {s : State} (hm : s.control.mode = .starting) (hs : s.control.startStep = .selfTest)
    (f : SelfTestFailures) :
    selfTestStep s f =
      if (s.control.mask.tested f).fails then
        State.enterFailed { s with control := { s.control with mask := s.control.mask.tested f } }
      else State.enterHeadWait { s with control := { s.control with mask := s.control.mask.tested f } } := by
  simp [selfTestStep, hm, hs]
  rfl

/-- Settles O55: the two ends of the self-test, and the head wait's limit. -/
theorem selfTestAndHeadWaitGoOn : Obligations.SelfTestAndHeadWaitGoOn := by
  refine ⟨?_, ?_⟩
  · intro s dt f hmode hstart hclaims hsense mask fails cut
    have hfails : (s.control.mask.tested f).fails = fails := rfl
    have hstep : exec (.selfTest dt f) s = done (selfTestStep (s.advance dt) f) := rfl
    rw [selfTestStep_eq (s := s.advance dt) hmode hstart, State.advance_control, hfails] at hstep
    refine ⟨fun hpass => ?_, fun hfail hflight => ?_⟩
    · rw [hpass, if_neg Bool.false_ne_true] at hstep
      refine completes_of_done hstep ⟨?_, elsewhere_of_same⟩
      have hfault : State.faultOutput (State.enterHeadWait { s.advance dt with
          control := { s.control with mask := s.control.mask.tested f } }) = false := by
        simp [State.faultOutput, State.enterHeadWait, hsense, hmode]
      rw [settle_control, hfault]
      simp [State.enterHeadWait]
      rfl
    · rw [hfail, if_pos rfl, enterFailed_eq] at hstep
      have hfailed := failedState_noClaims (s := { s.advance dt with
        control := { s.control with mask := s.control.mask.tested f } }) hclaims hsense hflight
      rw [hfailed] at hstep
      have hbits : ((s.control.mask.tested f).strap || (s.control.mask.tested f).lineLoop)
        = (s.control.mask.strap || f.lineLoop) := rfl
      dsimp only at hstep
      rw [hbits] at hstep
      cases hquiet : s.control.mask.strap || f.lineLoop with
      | true =>
        rw [hquiet, if_pos rfl] at hstep
        exact completes_of_done hstep ⟨rfl, rfl, rfl, fun _ => rfl, fun h => (nomatch h), elsewhere_of_same⟩
      | false =>
        rw [hquiet, if_neg Bool.false_ne_true, putFrame_room (by exact Nat.zero_lt_succ 7)] at hstep
        exact completes_of_done hstep ⟨rfl, rfl, rfl, fun h => (nomatch h), fun _ => ⟨_, rfl, rfl, rfl, rfl⟩,
          elsewhere_of_same⟩
  · intro s dt hwait habsent hr hsense
    have hlimit : span32 (headWaitLimit s.control.restarted)
        = if s.control.restarted = true then 5000 else 40000 := by
      cases s.control.restarted <;> rfl
    have hr' : reached (s.advance dt).now (span32 (headWaitLimit s.control.restarted)) = true := by
      rw [hlimit]; exact hr
    have hstep : exec (.headWaitLimit dt) s = done { s.advance dt with control := { s.control with
        mask := { s.control.mask with head := true }, startStep := .calibration
        sense := some ⟨.headAbsent, 0, none, s.now + dt⟩ } } := by
      show done (headWaitLimitStep (s.advance dt)) = _
      unfold headWaitLimitStep
      rw [State.advance_control, State.advance_port, hwait, habsent, hr', raise_eq]
      simp [hsense]
      rfl
    exact completes_of_done hstep ⟨rfl, elsewhere_of_same⟩

/-! ## Loads begin (10 R157, R160) -/

/-- Settles O56: by the kind of load. -/
theorem loadsBeginOnAnEmptyLane : Obligations.LoadsBeginOnAnEmptyLane := by
  intro s dt hload hvehicle ⟨dn, hformer⟩
  have hlane : (s.advance dt).laneEmpty = true := by simp [State.laneEmpty, hvehicle, hformer, AxleFormer.isEmpty]
  refine ⟨fun hmode hstart => ?_, fun hmode hstart hasked hclaims hwaiting => ?_, fun ended hmode hcal hend hr => ?_⟩
  · have hstep : exec (.calibrationLoadBegin dt) s = done ((s.advance dt).beginLoad .start) := by
      show done (calibrationLoadBeginStep (s.advance dt)) = _
      simp [calibrationLoadBeginStep, hload, hlane, hmode, hstart]
    exact completes_of_done hstep ⟨rfl, elsewhere_of_same⟩
  · have hstep : exec (.calibrationLoadBegin dt) s = done (State.beginLoad { s.advance dt with
        control := { s.control with reloadAsked := false } } .reload) := by
      show done (calibrationLoadBeginStep (s.advance dt)) = _
      simp [calibrationLoadBeginStep, hload, hlane, hmode, hstart, hasked, hclaims, hwaiting]
    exact completes_of_done hstep ⟨rfl, elsewhere_of_same⟩
  · have hr' : reached (s.advance dt).now (ended + span32 retryTime) = true := hr
    have hstep : exec (.calibrationRetry dt) s = done ((s.advance dt).beginLoad .retry) := by
      show done (calibrationRetryStep (s.advance dt)) = _
      simp [calibrationRetryStep, hload, hlane, hmode, hcal, hend, hr']
    exact completes_of_done hstep ⟨rfl, elsewhere_of_same⟩

/-! ## Loads end (10 R158 to R162; 06 R106) -/

/-- The learning that a load's end leaves, but at a start (06 R106). -/
def StationControl.movedLearning (c : StationControl) (cal : Option Calibration) : Option Learning :=
  match c.mode, c.learning, cal with
  | .learning, some l, some new =>
    some { l with finish := later l.finish (l.start + span32 (new.site.dwellCap * 100)) }
  | _, l, _ => l

theorem moveLearning_eq (s : State) :
    s.moveLearning = { s with control := { s.control with
      learning := s.control.movedLearning s.control.calibration } } := by
  unfold State.moveLearning StationControl.movedLearning State.site?
  obtain ⟨now, ⟨mode, calibration, straps, mask, startStep, restarted, load, reloadAsked, lastLoadEnd,
    lastLoadResult, learning, mismatch, sense, lostSense, fault⟩⟩ := s
  cases mode <;> cases learning <;> cases calibration <;> rfl

/-- Station Control when a load has ended, but for what follows from its kind. -/
def State.loadEnded (s : State) (kind : LoadKind) (result : LoadResult) : StationControl :=
  { s.control with
    calibration := result.calibration, load := none, lastLoadEnd := some s.now, lastLoadResult := result.record
    mask := { s.control.mask with calPort := result.isSilent }
    sense := if kind = .retry ∧ s.control.lastLoadResult = result.record then none
      else result.record.map fun r => ⟨r.1, r.2, none, s.now⟩ }

theorem raiseLoad_eq {s : State} (hs : s.control.sense = none) (kind : LoadKind) (result : LoadResult) :
    s.raiseLoad kind result.record = { s with control := { s.control with
      sense := (s.loadEnded kind result).sense } } := by
  have hsame : s = { s with control := { s.control with sense := none } } := by rw [← hs]
  unfold State.raiseLoad State.loadEnded
  cases result.record with
  | none => dsimp only [Option.map_none]; rw [ite_self]; exact hsame
  | some r =>
    obtain ⟨code, detail⟩ := r
    dsimp only
    split
    · exact hsame
    · rw [raise_eq]; simp [hs]

/-- The start of the lamp check sets timers to zero and nothing else (09 R151). -/
theorem zeroLampTimers_sign (s : State) :
    s.zeroLampTimers = { s with sign := s.zeroLampTimers.sign }
      ∧ Part.sign.same s { s with sign := s.zeroLampTimers.sign } := by
  unfold State.zeroLampTimers
  split <;> exact ⟨rfl, rfl⟩

/-- With no claim held and nothing pending, what a load's end does. -/
theorem endLoad_eq {s : State} (hs : s.control.sense = none) (hc : s.admission.claims = [])
    (hr : s.line.txq.length < 8) (kind : LoadKind) (result : LoadResult) :
    ∃ sign, Part.sign.same s { s with sign }
      ∧ (let u : State := { s with control := s.loadEnded kind result, sign }
         s.endLoad kind result = match kind with
          | .start => u.endStart
          | .retry => u.moveLearning
          | .reload => if result.calibration.isSome then u.moveLearning.queueStatus else u.moveLearning) := by
  let w : State := { s with control := s.loadEnded kind result }
  obtain ⟨hzero, hsame⟩ := zeroLampTimers_sign w
  refine ⟨w.zeroLampTimers.sign, hsame, ?_⟩
  intro u
  have hclaims : ∀ v : State, v.line = s.line → v.admission = s.admission →
      v.queueStatus.dropUncoordinated = v.queueStatus := by
    intro v hl ha
    have hroom := enqueue_room (s := v) (kind := .status) (use := .ordinary) (payload := v.statusPage0) (by rw [hl]; exact hr)
    refine dropUncoordinated_none ?_
    rw [State.queueStatus, hroom]
    exact ha ▸ hc
  have hmoved : u.moveLearning.dropUncoordinated = u.moveLearning := by
    rw [moveLearning_eq]
    exact dropUncoordinated_none hc
  unfold State.endLoad
  rw [raiseLoad_eq hs]
  dsimp only
  rw [show ∀ v : State, v = w → v.zeroLampTimers = u from fun v hv => by rw [hv]; exact hzero]
  · cases kind with
    | start => exact hclaims _ rfl rfl
    | retry => exact hmoved
    | reload =>
      have hcal : u.moveLearning.control.calibration = result.calibration := by rw [moveLearning_eq]; rfl
      dsimp only
      rw [hcal]
      split
      · rw [moveLearning_eq]; exact hclaims _ rfl rfl
      · exact hmoved
  · rfl

/-- Settles O57: one equation for the end of a load, read for each kind. -/
theorem loadsEndLoadedOrAbsent : Obligations.LoadsEndLoadedOrAbsent := by
  intro s dt c kind since cal raised silent hload hclaims hsense hroom hresult learning ended cap statusQueued
  obtain ⟨result, hexec, rfl, rfl, rfl⟩ : ∃ result : LoadResult, exec c s = done ((s.advance dt).endLoad kind result)
      ∧ result.calibration = cal ∧ result.record = raised ∧ result.isSilent = silent := by
    rcases hresult with ⟨record, hlen, rfl, rfl, hcheck⟩ | ⟨rfl, hr, rfl, rfl, rfl⟩
    · have hexec : exec (.calibrationLoadEnd dt record) s = done ((s.advance dt).endLoad kind (loadResult record)) := by
        show done (calibrationLoadEndStep (s.advance dt) record) = _
        simp [calibrationLoadEndStep, hload, hlen]
      refine ⟨loadResult record, hexec, ?_⟩
      unfold loadResult
      rcases hcheck with ⟨hnone, rfl, rfl⟩ | ⟨n, hsome, rfl, rfl⟩
      · rw [hnone]; exact ⟨rfl, rfl, rfl⟩
      · rw [hsome]; exact ⟨rfl, rfl, rfl⟩
    · have hr' : reached (s.advance dt).now (since + span32 memorySilence) = true := hr
      refine ⟨.silent, ?_, rfl, rfl, rfl⟩
      show done (calMemoryTimeoutStep (s.advance dt)) = _
      simp [calMemoryTimeoutStep, hload, hr']
  obtain ⟨sign, hsign, hend⟩ := endLoad_eq (s := s.advance dt) hsense hclaims hroom kind result
  -- What is left where only Station Control, the sign's timers and the queue have changed.
  have helse : ∀ (control : StationControl) (line : LineControl),
      Elsewhere [.control, .line] dt s (State.settle { s.advance dt with control, sign, line }) := by
    intro control line
    refine elsewhere_settle rfl rfl fun p hp => ?_
    cases p <;> simp at hp
    case sign => exact hsign
    all_goals rfl
  have helse' : ∀ control : StationControl,
      Elsewhere [.control] dt s (State.settle { s.advance dt with control, sign }) := by
    intro control
    refine elsewhere_settle rfl rfl fun p hp => ?_
    cases p <;> simp at hp
    case sign => exact hsign
    all_goals rfl
  rw [hend] at hexec
  -- The load's end in Station Control, its learning moved.
  have hended : (kind ≠ .retry ∨ s.control.lastLoadResult ≠ result.record ∨ result.record = none) →
      { (s.advance dt).loadEnded kind result with
        learning := StationControl.movedLearning ((s.advance dt).loadEnded kind result) result.calibration } = ended := by
    intro h
    have hraised : ((s.advance dt).loadEnded kind result).sense =
        result.record.map fun r => ⟨r.1, r.2, none, s.now + dt⟩ := by
      refine (ite_eq_right_iff (α := Option SenseRecord)).2 fun ⟨hk, hl⟩ => ?_
      rcases h with h | h | h
      · exact absurd hk h
      · exact absurd hl h
      · rw [h]; rfl
    exact congrArg (fun sense => ({ ended with sense } : StationControl)) hraised
  refine ⟨?_, ?_, ?_, ?_⟩
  · rintro rfl
    rw [State.endStart, State.queueStatus, enqueue_room (by exact hroom)] at hexec
    refine completes_of_done hexec ⟨control_same_settle ?_, ⟨_, rfl, rfl, rfl⟩, helse _ _⟩
    have hcap : ((result.calibration.map Calibration.site).map fun site => site.dwellCap * 100).getD
        learningWithoutCalibration = cap := by
      cases hc : result.calibration <;> simp [cap, hc, learningWithoutCalibration]
    show ({ (s.advance dt).loadEnded .start result with
      startStep := .done, mode := .learning
      learning := some { start := s.now + dt, finish := s.now + dt + span32 (((result.calibration.map
        Calibration.site).map fun site => site.dwellCap * 100).getD learningWithoutCalibration) } } : StationControl) = _
    rw [hcap]
    exact congrArg (fun x : StationControl => { x with
      mode := .learning, startStep := .done
      learning := some { start := s.now + dt, finish := s.now + dt + BitVec.ofNat 32 cap } })
      (hended (.inl (by decide)))
  · rintro rfl
    have hcontrol := hended (.inl (by decide))
    rw [moveLearning_eq] at hexec
    cases hc : result.calibration with
    | none =>
      rw [hc, if_neg (by simp)] at hexec
      refine completes_of_done hexec ⟨control_same_settle hcontrol, fun _ => rfl, fun h => absurd rfl h, ?_⟩
      exact helse _ _
    | some new =>
      rw [hc, if_pos (by simp), State.queueStatus, enqueue_room (by exact hroom)] at hexec
      exact completes_of_done hexec ⟨control_same_settle hcontrol, fun h => (nomatch h),
        fun _ => ⟨_, rfl, rfl, rfl⟩, helse _ _⟩
  · rintro rfl hdiffers
    rw [moveLearning_eq] at hexec
    exact completes_of_done hexec ⟨control_same_settle (hended (.inr hdiffers)), helse' _⟩
  · rintro rfl hlast
    rw [moveLearning_eq] at hexec
    refine completes_of_done hexec ⟨control_same_settle ?_, helse' _⟩
    have hquiet : ((s.advance dt).loadEnded .retry result).sense = none := if_pos ⟨rfl, hlast⟩
    exact congrArg (fun sense => ({ ended with sense } : StationControl)) hquiet

end Sys2Proof.Machine
end

section
/-! PROOFS. The Command Handler: replies at the end of data, and what a command does once due (11). -/

namespace Sys2Proof.Machine

/-! ## Room for a frame that displaces (08 R136) -/

/-- Where a frame gives way there is one to displace. -/
theorem youngestDroppable_isSome {l : LineControl} {f : TxFrame} (hf : f ∈ l.txq) (hg : l.givesWay f = true) :
    l.youngestDroppable.isSome = true := by
  have hfold : ∀ (q : List TxFrame) (best : Option TxFrame), best.isSome = true ∨ f ∈ q →
      (q.foldl l.younger best).isSome = true := by
    intro q
    induction q with
    | nil => intro best h; simpa using h
    | cons g q ih =>
      intro best h
      rw [List.foldl_cons]
      refine ih _ ?_
      unfold LineControl.younger
      rcases h with h | h
      · left
        split
        · cases best with
          | none => rfl
          | some b => dsimp only; split <;> rfl
        · exact h
      · rcases List.mem_cons.1 h with rfl | h
        · left
          rw [if_pos hg]
          cases best with
          | none => rfl
          | some b => dsimp only; split <;> rfl
        · exact .inr h
  rw [youngestDroppable_eq]
  exact hfold _ _ (.inr hf)

/-! ## The end of data of another station's frame (08 R125) -/

theorem holdsOwn_noDemand {l : LineControl} (h : l.holdDemand = false) : l.holdsOwn = false := by
  simp [LineControl.holdsOwn, h]

/-- In FRAME after at least one whole byte the frame is judged. -/
theorem endOfDataStep_frame {s : State} {bytes : List Byte} (hp : s.line.phase = .frame)
    (hown : s.line.rx.own = false) (hd : s.line.holdsOwn = false) (hne : bytes ≠ []) (hlen : bytes.length ≤ 13) :
    endOfDataStep s bytes =
      (s.readFrame bytes (s.line.rx.firstError.or (frameError bytes))).decideResponse bytes
        (s.line.rx.firstError.or (frameError bytes)).isNone := by
  have hlen' : ¬ 13 < bytes.length := Nat.not_lt.2 hlen
  rw [← judgeReceived_eq]
  simp [endOfDataStep, hp, hown, hd, hne, hlen']

theorem frameKind_ne_nil {bytes : List Byte} {k : FrameKind} (h : frameKind bytes = some k) : bytes ≠ [] := by
  rintro rfl
  cases h

/-! ## Replies (11 R164) -/

/-- The line of a station that has read `bytes` good, and drives `response` in its window. -/
def LineControl.readGood (l : LineControl) (bytes : List Byte) (response : Option ResponseDrive) : LineControl :=
  { l with
    phase := .window
    rx := { bytes, firstError := none, own := false, good := true, opening := none }
    response }

theorem decideReply_served {s : State} {q : Request} (h : q.alwaysServed = true) :
    s.decideReply (some q) = s.serve q := by simp [State.decideReply, h]

theorem decideReply_free {s : State} (hm : s.control.mode = .learning ∨ s.control.mode = .active)
    (hs : s.control.sense = none) (q : Request) : s.decideReply (some q) = s.serve q := by
  rcases hm with hm | hm <;> simp [State.decideReply, hm, hs]

/-- On a NORMAL line with no HOLD demand a COMMAND's reply is driven by the mode (11 R164). -/
theorem commandAtEod_normal {s : State} (hs : s.line.state = .normal) (hd : s.line.holdDemand = false)
    (payload : List Byte) :
    s.commandAtEod payload =
      if s.control.mode = .failed then
        if requestOf payload = some .restart then s.driveReply (.ack, some .restart) else s
      else s.driveReply (s.decideReply (requestOf payload)) := by
  unfold State.commandAtEod
  rw [hs, hd]
  by_cases hm : s.control.mode = .failed <;> simp [hm]

theorem recorded_first {s : State} {tag : Tag} {before after : List VehicleRecord} {r : VehicleRecord}
    (h : s.assembler.history = before ++ r :: after) (hr : r.tag = tag) (hb : ∀ b ∈ before, b.tag ≠ tag) :
    s.recorded tag = some r := by
  unfold State.recorded
  rw [h, List.find?_append, List.find?_eq_none.2 fun b hb' => by simpa using hb b hb']
  simp [hr]

theorem recorded_none {s : State} {tag : Tag} (h : ∀ r ∈ s.assembler.history, r.tag ≠ tag) :
    s.recorded tag = none := List.find?_eq_none.2 fun r hr => by simpa using h r hr

/-- Settles O58: the reply by R164's rows, and the drive that it gives. -/
theorem commandsDrawTheirReplies : Obligations.CommandsDrawTheirReplies := by
  intro s dt bytes hphase hown hfirst hlen hkind herror htarget hstate hdemand hresponse request replies givesWay
    room full
  have hread : exec (.endOfData dt bytes) s = done (State.commandAtEod
      { s.advance dt with line := s.line.readGood bytes s.line.response } (framePayload bytes)) := by
    show done (endOfDataStep (s.advance dt) bytes) = _
    rw [endOfDataStep_frame (s := s.advance dt) hphase hown (holdsOwn_noDemand hdemand) (frameKind_ne_nil hkind) hlen,
      State.advance_line, hfirst, herror]
    unfold State.decideResponse
    rw [hkind]
    simp only [Option.or_none, Option.isNone_none, Bool.true_and, htarget]
    rw [if_pos (by simp [State.readFrame])]
    rfl
  -- A station that is not FAILED drives the reply it decides on.
  have hreply : ∀ (code : ReplyCode) (command : Option Maintenance), s.control.mode ≠ .failed →
      s.decideReply request = (code, command) → replies code.code command := by
    intro code command hmode hdecide
    have hdrive : exec (.endOfData dt bytes) s = done (State.driveReply
        { s.advance dt with line := s.line.readGood bytes s.line.response } (code, command)) := by
      rw [hread, ← hdecide, commandAtEod_normal (by exact hstate) (by exact hdemand), if_neg (by exact hmode)]
      rfl
    exact completes_of_done hdrive ⟨rfl, rfl, elsewhere_of_same⟩
  have hroom : ∀ k : FrameKind, k.droppable = false → room → s.hasRoom k = true := by
    intro k hk h
    rcases h with h | ⟨hflight, f, hf, hg⟩
    · have h' : s.line.txq.length < txCapacity := h
      simp [State.hasRoom, h']
    · have hsome := youngestDroppable_isSome hf ((givesWay_iff _ _).2 ⟨hg, by simp [hflight]⟩)
      simp [State.hasRoom, hk, hsome]
  have hfull : ∀ k : FrameKind, full → s.hasRoom k = false := by
    intro k ⟨h8, hno⟩
    have hnone : s.line.youngestDroppable = none := youngestDroppable_none fun g hg =>
      Bool.eq_false_iff.2 fun h => hno g hg ((givesWay_iff _ _).1 h).1
    have h8' : ¬ s.line.txq.length < txCapacity := Nat.not_lt.2 h8
    simp [State.hasRoom, hnone, h8']
  refine ⟨fun hfailed hreq => ?_, fun hfailed hreq => ?_, fun hmode hreq => ?_, fun page hmode hreq => ?_,
    fun hmode hreq => ?_, fun q hmode hreq hserved => ?_, fun q hmode hreq hserved hsense => ?_,
    fun hmode hsense => ?_⟩
  · have hdrive : exec (.endOfData dt bytes) s = done (State.driveReply
        { s.advance dt with line := s.line.readGood bytes s.line.response } (.ack, some .restart)) := by
      rw [hread, commandAtEod_normal (by exact hstate) (by exact hdemand), if_pos (by exact hfailed),
        if_pos (by exact hreq)]
    exact completes_of_done hdrive ⟨rfl, rfl, elsewhere_of_same⟩
  · have hstay : exec (.endOfData dt bytes) s = done
        { s.advance dt with line := s.line.readGood bytes s.line.response } := by
      rw [hread, commandAtEod_normal (by exact hstate) (by exact hdemand), if_pos (by exact hfailed),
        if_neg (by exact hreq)]
    exact completes_of_done hstay ⟨rfl, elsewhere_of_same⟩
  · exact hreply .reject none hmode (by rw [hreq]; rfl)
  · have hserve : s.decideReply request = s.serve (.statusPage page) := by rw [hreq]; exact decideReply_served rfl
    exact ⟨fun h => hreply .ack _ hmode (by rw [hserve]; simp [State.serve, hroom .status rfl h]),
      fun h => hreply .busy _ hmode (by rw [hserve]; simp [State.serve, hfull .status h])⟩
  · have hserve : s.decideReply request = s.serve .sense := by rw [hreq]; exact decideReply_served rfl
    exact ⟨fun h => hreply .ack _ hmode (by rw [hserve]; simp [State.serve, hroom .sense rfl h]),
      fun h => hreply .busy _ hmode (by rw [hserve]; simp [State.serve, hfull .sense h])⟩
  · exact hreply .busy none (by simp [hmode]) (by rw [hreq]; simp [State.decideReply, hmode, hserved])
  · have hsome : s.control.sense.isSome = true := Option.isSome_iff_ne_none.2 hsense
    refine hreply .check none (by rcases hmode with h | h <;> simp [h]) ?_
    rw [hreq]
    rcases hmode with h | h <;> simp [State.decideReply, h, hserved, hsome]
  · have hnotFailed : s.control.mode ≠ .failed := by rcases hmode with h | h <;> simp [h]
    have hserve : ∀ q, request = some q → s.decideReply request = s.serve q := fun q hq => by
      rw [hq]; exact decideReply_free hmode hsense q
    refine ⟨fun hq => hreply .ack _ hnotFailed (hserve _ hq), fun hq => hreply .ack _ hnotFailed (hserve _ hq),
      fun hq => ⟨fun hbusy => ?_, fun hv hf hc hl => ?_⟩, fun tag hq => ⟨fun hr => ?_, fun hr hno => ?_,
        fun before r after hr hsplit htag hbefore => ⟨fun hlt => ?_, fun hge => ?_⟩⟩⟩
    · refine hreply .busy _ hnotFailed ((hserve _ hq).trans (if_pos ?_))
      simp only [State.laneEmpty, Bool.or_eq_true, Bool.not_eq_true', Bool.and_eq_false_iff, Option.isNone_eq_false_iff,
        Option.isSome_iff_ne_none, List.isEmpty_eq_false_iff]
      tauto
    · exact hreply .ack _ hnotFailed ((hserve _ hq).trans (if_neg (by simp [State.laneEmpty, hv, hf, hc, hl])))
    · refine hreply .busy _ hnotFailed ((hserve _ hq).trans (if_pos (Option.isSome_iff_ne_none.2 hr)))
    · refine hreply .reject _ hnotFailed ((hserve _ hq).trans ?_)
      simp [State.serve, hr, recorded_none hno]
    · have hlt' : s.line.txq.length < txCapacity := hlt
      refine hreply .ack _ hnotFailed ((hserve _ hq).trans ?_)
      simp [State.serve, hr, recorded_first hsplit htag hbefore, State.hasRoom, hlt']
    · have hge' : ¬ s.line.txq.length < txCapacity := Nat.not_lt.2 hge
      refine hreply .busy _ hnotFailed ((hserve _ hq).trans ?_)
      simp [State.serve, hr, recorded_first hsplit htag hbefore, State.hasRoom, hge', FrameKind.droppable]

/-! ## Commands that are due (11 R165 to R167) -/

theorem statusPageStep_due {s : State} {page : Nat} (h : s.handler.due = some (.statusPage page)) :
    statusPageStep s = s.clearDue.enqueue .status .ordinary (s.statusPayload page) := by
  unfold statusPageStep; rw [h]

theorem senseStep_due {s : State} (h : s.handler.due = some .sense) :
    senseStep s = { s.clearDue.enqueue .sense .ordinary s.sensePayload with
      control := { (s.clearDue.enqueue .sense .ordinary s.sensePayload).control with sense := none } } := by
  unfold senseStep; rw [h]

/-- A frame that displaces one of no replay, with no claim held. -/
theorem enqueue_displaces_noClaims {s : State} {kind : FrameKind} {payload : List Byte} {d : TxFrame}
    (hc : s.admission.claims = []) (h : 8 ≤ s.line.txq.length) (hk : kind.droppable = false)
    (hd : s.line.youngestDroppable = some d) (hu : d.use ≠ .replay) :
    s.enqueue kind .ordinary payload = { s.countDrop with line := { s.line with
      txq := insertFrame (s.frameOf kind .ordinary payload) (s.line.txq.erase d) } } := by
  have hu' : (d.use == .replay) = false := by simp [hu]
  rw [enqueue_displaces h hk hd, preCheck_none (by exact hc), State.replayAfter, hu', if_neg Bool.false_ne_true]

/-- Settles O59: each command's step where it is due. -/
theorem acknowledgedCommandsRun : Obligations.AcknowledgedCommandsRun := by
  refine ⟨fun s dt hroom => ⟨fun page hdue => ?_, fun hdue => ?_⟩,
    ?_, fun s dt hdue => ?_, fun s dt hdue => ?_⟩
  · have hstep : exec (.statusPage dt) s = done (statusPageStep (s.advance dt)) := rfl
    rw [statusPageStep_due (s := s.advance dt) hdue, enqueue_room (by exact hroom)] at hstep
    exact completes_of_done hstep ⟨⟨_, rfl, rfl, rfl⟩, rfl, elsewhere_of_same⟩
  · have hstep : exec (.sense dt) s = done (senseStep (s.advance dt)) := rfl
    rw [senseStep_due (s := s.advance dt) hdue, enqueue_room (by exact hroom)] at hstep
    exact completes_of_done hstep ⟨⟨_, rfl, rfl, rfl⟩, control_same_settle, rfl, elsewhere_of_same⟩
  · intro s dt d h8 hclaims givesWay hd hgives hreplay hyoung displaced
    have hyoungest : s.line.youngestDroppable = some d := youngestDroppable_some hd ((givesWay_iff _ _).2 hgives)
      fun g hg hg' hne => hyoung g hg ((givesWay_iff _ _).1 hg') hne
    refine ⟨fun page hdue => ?_, fun hdue => ?_⟩
    · have hstep : exec (.statusPage dt) s = done (statusPageStep (s.advance dt)) := rfl
      rw [statusPageStep_due (s := s.advance dt) hdue,
        enqueue_displaces_noClaims (by exact hclaims) (by exact h8) rfl (by exact hyoungest) hreplay] at hstep
      exact completes_of_done hstep ⟨⟨⟨_, rfl, rfl, rfl⟩, rfl, rfl⟩, elsewhere_of_same⟩
    · have hstep : exec (.sense dt) s = done (senseStep (s.advance dt)) := rfl
      rw [senseStep_due (s := s.advance dt) hdue,
        enqueue_displaces_noClaims (by exact hclaims) (by exact h8) rfl (by exact hyoungest) hreplay] at hstep
      exact completes_of_done hstep ⟨⟨⟨_, rfl, rfl, rfl⟩, rfl, rfl⟩, control_same_settle, elsewhere_of_same⟩
  · have hstep : exec (.reload dt) s = done { (s.advance dt).clearDue with
        control := { s.control with reloadAsked := true } } := by
      show done (reloadStep (s.advance dt)) = _
      unfold reloadStep
      rw [State.advance_handler, hdue]
      rfl
    exact completes_of_done hstep ⟨rfl, rfl, elsewhere_of_same⟩
  · have hstep : exec (.clearCounters dt) s = done { (s.advance dt).clearDue with
        counters := .zero, span := { s.span with duplicates := 0, lost := 0 }
        control := { s.control with lostSense := 0 } } := by
      show done (clearCountersStep (s.advance dt)) = _
      unfold clearCountersStep
      rw [State.advance_handler, hdue]
      rfl
    exact completes_of_done hstep ⟨rfl, rfl, rfl, rfl, elsewhere_of_same⟩

/-! ## The replay (11 R170) -/

theorem getD_map_getD (axles : List Axle) (value : Axle → Option Nat) (i : Nat) :
    (axles.map fun x => (value x).getD 0).getD i 0 = ((axles[i]?).bind value).getD 0 := by
  rw [List.getD_eq_getElem?_getD, List.getElem?_map]
  cases axles[i]? <;> rfl

theorem axlesFrames_eq (tag : Tag) (base parts : Nat) (axles : List Axle) (value : Axle → Option Nat) :
    axlesFrames tag base (axles.map fun x => (value x).getD 0) parts =
      (List.range parts).map fun p =>
        ({ kind := .report
           payload := 4 :: be16 (16 * tag.toNat + (base + p)) ++ be16 (((axles[3 * p]?).bind value).getD 0)
             ++ be16 (((axles[3 * p + 1]?).bind value).getD 0)
             ++ be16 (((axles[3 * p + 2]?).bind value).getD 0) } : ReplayFrame) := by
  simp only [axlesFrames, axlesPayload, getD_map_getD]

/-- Settles O60: the replay's frames, and its VERDICT queued or discarded. -/
theorem replayBeginsWithItsVerdict : Obligations.ReplayBeginsWithItsVerdict := by
  intro s dt r hdue parts frame load spacing
  have hreports : replayReports r = (List.range parts).map (fun p => frame p load p)
      ++ (List.range parts).map (fun p => frame (4 + p) spacing p) := by
    unfold replayReports
    dsimp only
    rw [axlesFrames_eq, axlesFrames_eq]
    simp only [Nat.zero_add]
    rfl
  have hstep : exec (.readVehicle dt) s = done (State.enqueue { s.advance dt with
      handler := { s.handler with due := none, replay := some (replayReports r) } } .verdict .replay
        (verdictPayload r)) := by
    show done (readVehicleStep (s.advance dt)) = _
    unfold readVehicleStep
    rw [State.advance_handler, hdue]
  refine ⟨fun hroom => ?_, fun h8 hclaims => ?_⟩
  · rw [enqueue_room (by exact hroom), insertFrame_verdict rfl, hreports] at hstep
    exact completes_of_done hstep ⟨⟨_, rfl, rfl, rfl, rfl⟩, rfl, elsewhere_of_same⟩
  · rw [enqueue_discarded (by exact h8) (.inl rfl), preCheck_none (by exact hclaims)] at hstep
    exact completes_of_done hstep ⟨rfl, rfl, elsewhere_of_same⟩

end Sys2Proof.Machine
end

section
/-! PROOFS. Symbols, frames as built, and the receiver (08 R121 to R125, R132). -/

namespace Sys2Proof.Machine

/-! ## The bands of R122 -/

/-- 1/6 to 1/2 bit time. -/
theorem classify_data1 {tb us : Nat} (h : tb ≤ 6 * us) (h' : 12 * us < 6 * tb) : classify tb us = .data1 := by
  have h1 : ¬ 6 * us < tb := by omega
  have h2 : ¬ 8 * tb ≤ us := by omega
  simp [classify, h1, h2, belowBound_lt h']

/-- 1/2 to 5/6 bit time. -/
theorem classify_data0 {tb us : Nat} (h : 6 * tb < 12 * us) (h' : 12 * us < 10 * tb) : classify tb us = .data0 := by
  have h1 : ¬ 6 * us < tb := by omega
  have h2 : ¬ 8 * tb ≤ us := by omega
  simp [classify, h1, h2, belowBound_gt h, belowBound_lt h']

/-- 1.5 to 2.5 bit times. -/
theorem classify_long {tb us : Nat} (h : 3 * tb ≤ 2 * us) (h' : 12 * us < 30 * tb) : classify tb us = .normLong := by
  have h1 : ¬ 6 * us < tb := by omega
  have h2 : ¬ 8 * tb ≤ us := by omega
  have h3 : ¬ 2 * us < 3 * tb := by omega
  have b6 := belowBound_gt (show 6 * tb < 12 * us by omega)
  have b10 := belowBound_gt (show 10 * tb < 12 * us by omega)
  simp [classify, h1, h2, h3, b6, b10, belowBound_lt h']

/-- 8 bit times and over. -/
theorem classify_hold {tb us : Nat} (ht : 0 < tb) (h : 8 * tb ≤ us) : classify tb us = .hold := by
  have h1 : ¬ 6 * us < tb := by omega
  simp [classify, h1, h]

/-- A level over 5/6 bit time and below HOLD is no data cell, no noise and no HOLD. -/
theorem classify_overData {tb us : Nat} (h : 10 * tb < 12 * us) (h' : us < 8 * tb) :
    classify tb us = .normShort ∨ classify tb us = .normLong ∨ classify tb us = .sos ∨ classify tb us = .faulty := by
  have h1 : ¬ 6 * us < tb := by omega
  have h2 : ¬ 8 * tb ≤ us := by omega
  have b6 := belowBound_gt (show 6 * tb < 12 * us by omega)
  have b10 := belowBound_gt h
  simp only [classify, if_neg h1, if_neg h2, b6, b10]
  repeat' split
  all_goals simp_all

/-! ## What a station drives (08 R121, R133, R134, R138) -/

theorem byteSymbols_eq (bytes : List Byte) :
    byteSymbols bytes = (List.range (8 * bytes.length)).map fun cell =>
      dataSymbol ((bytes.getD (cell / 8) 0).getMsbD (cell % 8)) := by
  unfold byteSymbols
  rw [← List.filterMap_eq_map]
  refine List.filterMap_congr fun cell hcell => ?_
  have hlt : cell / 8 < bytes.length := by
    have := List.mem_range.1 hcell
    omega
  simp [cellOf, List.getElem?_eq_getElem hlt, List.getD_eq_getElem?_getD]

theorem byteSymbols_getElem? {bytes : List Byte} {i k : Nat} {b : Byte} (hb : bytes[i]? = some b) (hk : k < 8) :
    (byteSymbols bytes)[8 * i + k]? = some (dataSymbol (b.getMsbD k)) := by
  have hi : i < bytes.length := (List.getElem?_eq_some_iff.1 hb).1
  have hlt : 8 * i + k < 8 * bytes.length := by omega
  have hdiv : (8 * i + k) / 8 = i := by omega
  have hmod : (8 * i + k) % 8 = k := by omega
  rw [byteSymbols_eq, List.getElem?_map, List.getElem?_range hlt]
  simp [hdiv, hmod, List.getD_eq_getElem?_getD, hb]

theorem sum_cellThirds (l : List Bool) : (l.map fun b => ((dataSymbol b).cellThirds.getD 0)).sum = 3 * l.length := by
  induction l with
  | nil => rfl
  | cons b l ih =>
    have hb : (dataSymbol b).cellThirds.getD 0 = 3 := by cases b <;> rfl
    rw [List.map_cons, List.sum_cons, ih, hb, List.length_cons]
    omega

/-- Settles O37: each symbol by its band; a frame by its cells; the rest by what `driven` looks at. -/
theorem symbolsReadInTheirBands : Obligations.SymbolsReadInTheirBands := by
  refine ⟨fun rate symbol us hus hhigh hlow => ?_, fun bytes => ⟨rfl, ?_, ?_, fun i b k hb hk => ?_⟩,
    fun l hd => ?_, fun l x hd hx hs => ?_, fun l r hd hx hr hs => ?_⟩
  · have htb : 100 ≤ bitTime rate := by cases rate <;> decide
    cases symbol <;> simp only [Symbol.dominantThirds] at hhigh hlow
    case data0 => exact classify_data0 (by omega) (by omega)
    case data1 => exact classify_data1 (by omega) (by omega)
    case sos => exact classify_sos (by omega) (by omega)
    case normShort => exact classify_short (by omega) (by omega)
    case normLong => exact classify_long (by omega) (by omega)
    case hold => exact classify_hold (by omega) (by omega)
  · simp [frameSymbols, byteSymbols_eq, Nat.add_comm]
  · have hsum := sum_cellThirds ((List.range (8 * bytes.length)).map fun cell =>
      (bytes.getD (cell / 8) 0).getMsbD (cell % 8))
    rw [List.map_map, List.length_map, List.length_range] at hsum
    rw [frameSymbols, List.map_cons, List.sum_cons, byteSymbols_eq, List.map_map]
    refine (congrArg (12 + ·) hsum).trans ?_
    omega
  · have hindex : 1 + 8 * i + k = (8 * i + k) + 1 := by omega
    rw [frameSymbols, hindex, List.getElem?_cons_succ, byteSymbols_getElem? hb hk]
    rfl
  · simp [LineControl.driven, hd]
  · simp [LineControl.driven, hd, hx, hs]
  · simp [LineControl.driven, hd, hx, hr, hs, ResponseDrive.symbols, frameSymbols]

/-! ## Frames as built (08 R124; 12.3) -/

theorem byteOf_toNat {n : Nat} (h : n < 256) : (byteOf n).toNat = n := by
  simp [byteOf, BitVec.toNat_ofNat, Nat.mod_eq_of_lt h]

theorem readBE_be16 (n : Nat) : readBE (be16 n) = n % 65536 := by
  simp only [readBE, be16, List.foldl_cons, List.foldl_nil, byteOf, BitVec.toNat_ofNat]
  omega

theorem kind_code_le (k : FrameKind) : k.code ≤ 6 := by cases k <;> decide

theorem ofCode_code (k : FrameKind) : FrameKind.ofCode k.code = some k := by cases k <;> rfl

theorem payloadLength_le (k : FrameKind) : k.payloadLength ≤ 10 := by cases k <;> decide

/-- The first byte of a frame as built. -/
theorem frameBytes_head (number : StationNo) (kind : FrameKind) (payload : List Byte) :
    (byteAt (frameBytes number kind payload) 0).toNat = 32 * kind.code + 2 * number.toNat := by
  have hc := kind_code_le kind
  have hn := number.isLt
  exact byteOf_toNat (by omega)

theorem frameBytes_second (number : StationNo) (kind : FrameKind) (payload : List Byte) :
    (byteAt (frameBytes number kind payload) 1).toNat = 240 + kind.payloadLength := by
  have hl := payloadLength_le kind
  exact byteOf_toNat (by omega)

theorem frameKind_frameBytes (number : StationNo) (kind : FrameKind) (payload : List Byte) :
    frameKind (frameBytes number kind payload) = some kind := by
  have hhead := frameBytes_head number kind payload
  have hn := number.isLt
  have hdiv : (byteAt (frameBytes number kind payload) 0).toNat / 32 = kind.code := by omega
  rw [← ofCode_code kind, ← hdiv]
  rfl

theorem frameSource_frameBytes (number : StationNo) (kind : FrameKind) (payload : List Byte) :
    frameSource (frameBytes number kind payload) = number := by
  have hn := number.isLt
  apply BitVec.eq_of_toNat_eq
  rw [frameSource, frameBytes_head, BitVec.toNat_ofNat]
  omega

theorem framePayload_frameBytes (number : StationNo) (kind : FrameKind) (payload : List Byte) :
    framePayload (frameBytes number kind payload) = payload := by
  simp [framePayload, frameBytes]

theorem crcOk_frameBytes (number : StationNo) (kind : FrameKind) (payload : List Byte) :
    crcOk (frameBytes number kind payload) = true := by
  simp [crcOk, frameBytes, List.dropLast_cons_of_ne_nil, List.getLast?_cons]

theorem structureOk_frameBytes {number : StationNo} {kind : FrameKind} {payload : List Byte}
    (hl : payload.length = kind.payloadLength) : structureOk (frameBytes number kind payload) = true := by
  have hlen : (frameBytes number kind payload).length = 3 + kind.payloadLength := by simp [frameBytes, hl]; omega
  have hp := payloadLength_le kind
  have heven : (byteAt (frameBytes number kind payload) 0).getLsbD 0 = false := by
    rw [← BitVec.testBit_toNat, frameBytes_head, Nat.testBit_zero, decide_eq_false_iff_not]
    omega
  have hsecond : (byteAt (frameBytes number kind payload) 1).toNat % 16 = kind.payloadLength := by
    rw [frameBytes_second]; omega
  unfold structureOk
  rw [frameKind_frameBytes]
  simp only [hlen, heven, hsecond]
  simp

theorem contentOk_frameBytes {number : StationNo} {kind : FrameKind} {payload : List Byte} (hn : number ≠ 15)
    (hk : kind ≠ .command) (hr : reservedOk kind payload = true) :
    contentOk (frameBytes number kind payload) = true := by
  have htarget : frameTarget (frameBytes number kind payload) = 15 := by
    have hp := payloadLength_le kind
    apply BitVec.eq_of_toNat_eq
    rw [frameTarget, frameBytes_second, BitVec.toNat_ofNat]
    show (240 + kind.payloadLength) / 16 % 16 = 15
    omega
  have haddress : addressOk kind number 15 = true := by
    have hsource : (number != 15) = true := bne_iff_ne.2 hn
    cases kind
    case command => exact absurd rfl hk
    all_goals exact Bool.and_eq_true_iff.2 ⟨hsource, rfl⟩
  unfold contentOk
  rw [frameKind_frameBytes, frameSource_frameBytes, htarget, framePayload_frameBytes]
  exact Bool.and_eq_true_iff.2 ⟨haddress, hr⟩

/-- The last byte of a CLAIM's payload. -/
theorem claimFlags_bits (east degraded split : Bool) :
    let b := byteOf (128 * bit east + 2 * bit degraded + bit split)
    b.getLsbD 7 = east ∧ b.getLsbD 1 = degraded ∧ b.getLsbD 0 = split := by
  cases east <;> cases degraded <;> cases split <;> decide

/-- Settles O50: the three checks of R125, and the fields of a CLAIM. -/
theorem framesReadBackAsBuilt : Obligations.FramesReadBackAsBuilt := by
  refine ⟨fun number kind payload hn hk hl hr => ⟨?_, frameKind_frameBytes _ _ _, frameSource_frameBytes _ _ _,
    framePayload_frameBytes _ _ _⟩, fun r dwell entryEnd hcount hassessed hmeasured hdwell => ?_⟩
  · simp [frameError, structureOk_frameBytes hl, crcOk_frameBytes, contentOk_frameBytes hn hk hr]
  · have htag := r.tag.isLt
    have hfield : ∀ (n : Nat), n ≤ 65535 → readBE (be16 n) = n := fun n hn => by
      rw [readBE_be16]; omega
    have h0 : fieldAt (claimPayload r dwell entryEnd) 0 2 = 16 * r.tag.toNat + r.axleCount % 16 :=
      hfield _ (by omega)
    have h2 : fieldAt (claimPayload r dwell entryEnd) 2 2 = r.assessedGross := hfield _ hassessed
    have h4 : fieldAt (claimPayload r dwell entryEnd) 4 2 = r.measuredGross := hfield _ hmeasured
    have h6 : fieldAt (claimPayload r dwell entryEnd) 6 2 = dwell := hfield _ hdwell
    obtain ⟨hend, hdegraded, hsplit⟩ := claimFlags_bits (entryEnd == .east) r.flags.degraded r.flags.split
    have h8 : byteAt (claimPayload r dwell entryEnd) 8 =
        byteOf (128 * bit (entryEnd == .east) + 2 * bit r.flags.degraded + bit r.flags.split) := rfl
    unfold claimPayloadOf
    rw [h0, h2, h4, h6, h8, hend, hdegraded, hsplit]
    have htag' : BitVec.ofNat 12 ((16 * r.tag.toNat + r.axleCount % 16) / 16) = r.tag := by
      apply BitVec.eq_of_toNat_eq
      rw [BitVec.toNat_ofNat]
      omega
    have hcount' : (16 * r.tag.toNat + r.axleCount % 16) % 16 = r.axleCount := by omega
    rw [htag', hcount']
    cases entryEnd <;> rfl

/-! ## The receiver (08 R123, R132) -/

theorem InFlight.starting_iff (x : InFlight) : x.starting = true ↔ x.phase = .start ∧ x.stopped = false := by
  simp [InFlight.starting]

theorem InFlight.passSos_eq (x : InFlight) :
    x.passSos = if x.phase = .start ∧ x.stopped = false then { x with phase := .byte0 } else x := by
  simp only [InFlight.passSos, InFlight.starting_iff]

theorem InFlight.passByte0_eq (x : InFlight) :
    x.passByte0 = if x.phase = .byte0 ∧ x.stopped = false then { x with phase := .data } else x := by
  simp [InFlight.passByte0]

/-- An SOS in IDLE, whoever drives it. -/
theorem sosReceivedStep_sos {s : State} {us : Nat} (hphase : s.line.phase = .idle)
    (hlow : 30 * Machine.bitTime s.control.straps.rate < 12 * us)
    (hhigh : 12 * us < 42 * Machine.bitTime s.control.straps.rate) :
    sosReceivedStep s us = { s with line := { s.line with
      phase := .frame
      rx := { RxAssembly.empty with own := s.line.inFlight.any InFlight.starting }
      inFlight := s.line.inFlight.map InFlight.passSos } } := by
  have hsos : classify s.bitTime us = .sos := classify_sos hlow hhigh
  unfold sosReceivedStep
  rw [hphase, hsos]
  rfl

/-- A dominant level that is a framing error in IDLE. -/
theorem receiveFramingErrorStep_idle {s : State} {us : Nat} {bytes : List Byte} (hphase : s.line.phase = .idle)
    (hlow : Machine.bitTime s.control.straps.rate < 6 * us) (hhigh : us < 8 * Machine.bitTime s.control.straps.rate)
    (hband : 12 * us < 30 * Machine.bitTime s.control.straps.rate
      ∨ 42 * Machine.bitTime s.control.straps.rate < 12 * us) :
    receiveFramingErrorStep s (.dominant us) bytes = s.idleError := by
  have herror : idleFramingError s.bitTime (.dominant us) = true := by
    obtain ⟨hnoise, hsos, hhold⟩ := classify_outside hlow hhigh hband
    simp only [idleFramingError, State.bitTime]
    split <;> simp_all
  unfold receiveFramingErrorStep
  rw [hphase, herror]
  rfl

/-- A framing error of R123 in FRAME. -/
theorem receiveFramingErrorStep_frame {s : State} {cause : FramingCause} {bytes : List Byte}
    (hphase : s.line.phase = .frame) (herror : frameFramingError s.bitTime bytes cause = true)
    (hsane : framingCauseSane cause bytes = true) :
    receiveFramingErrorStep s cause bytes = s.frameErrorMet bytes := by
  unfold receiveFramingErrorStep
  rw [hphase, herror, hsane]
  rfl

/-- A level that is no data cell in a response whose shape stands so far. -/
theorem receiveFramingErrorStep_response {s : State} {us : Nat} {bytes : List Byte} {o : Opening}
    (hphase : s.line.phase = .response) (ho : s.line.rx.opening = some o) (hshape : o ≠ .misshapen)
    (hlen : bytes.length ≤ 13) (hlow : 10 * Machine.bitTime s.control.straps.rate < 12 * us)
    (hhigh : us < 8 * Machine.bitTime s.control.straps.rate) :
    receiveFramingErrorStep s (.dominant us) bytes = s.responseErrorMet := by
  have hsane : framingCauseSane (.dominant us) bytes = true := by simp [framingCauseSane, hlen]
  have herror : responseFramingError s.bitTime o bytes (.dominant us) = true := by
    have hover := classify_overData hlow hhigh
    simp only [responseFramingError, State.bitTime]
    obtain hl | hl | hl | hl := hover <;> simp [hl, hshape]
  unfold receiveFramingErrorStep
  rw [hphase, ho, hsane]
  simp [herror]

/-- The first error of a response is noted and counted; a later one is neither. -/
theorem responseErrorMet_eq (s : State) :
    s.responseErrorMet = { s with
      line := { s.line with rx := { s.line.rx with
        firstError := some (s.line.rx.firstError.getD .framing), opening := some .misshapen } }
      counters := { s.counters with
        framingErrors := if s.line.rx.firstError = none then bump s.counters.framingErrors
          else s.counters.framingErrors } } := by
  obtain hfirst | ⟨e, hfirst⟩ := Option.eq_none_or_eq_some s.line.rx.firstError
  · simp [State.responseErrorMet, State.noteResponseError, State.countRxError, hfirst]
  · simp [State.responseErrorMet, State.noteResponseError, hfirst]

/-- Each of R123's five framing errors in FRAME is read as one and is sane. -/
theorem frameFramingError_of_cause {tb : Nat} {cause : FramingCause} {bytes : List Byte}
    (h : (∃ us, cause = .recessiveInByte us ∧ tb < us ∧ bytes.length ≤ 13)
      ∨ (∃ us, cause = .recessiveAfterByte us ∧ tb < us ∧ us < 2 * tb ∧ bytes ≠ [] ∧ bytes.length ≤ 13)
      ∨ (∃ us, cause = .recessiveAfterSos us ∧ 3 * tb < 2 * us ∧ bytes = [])
      ∨ (∃ us, cause = .dominant us ∧ 10 * tb < 12 * us ∧ us < 8 * tb ∧ bytes.length ≤ 13)
      ∨ cause = .fourteenthByte ∧ bytes.length = 13) :
    frameFramingError tb bytes cause = true ∧ framingCauseSane cause bytes = true := by
  obtain ⟨us, rfl, hus, hlen⟩ | ⟨us, rfl, hlow, hhigh, hbytes, hlen⟩ | ⟨us, rfl, hus, rfl⟩
    | ⟨us, rfl, hlow, hhigh, hlen⟩ | ⟨rfl, hlen⟩ := h
  · simp [frameFramingError, framingCauseSane, hus, hlen]
  · simp [frameFramingError, framingCauseSane, hlow, hhigh, hbytes, hlen]
  · simp [frameFramingError, framingCauseSane, hus]
  · obtain hl | hl | hl | hl := classify_overData hlow hhigh <;>
      simp [frameFramingError, framingCauseSane, hl, hlen]
  · simp [frameFramingError, framingCauseSane, hlen]

/-- Whole bytes read of an own frame take its sender past byte 0. -/
theorem frameErrorMet_eq {s : State} (bytes : List Byte) (hfirst : s.line.rx.firstError = none) :
    s.frameErrorMet bytes = { s with line := { s.line with
      phase := .discard
      rx := { s.line.rx with bytes, firstError := some .framing }
      inFlight := s.line.inFlight.map fun x =>
        if s.line.rx.own = true ∧ bytes ≠ [] ∧ x.phase = .byte0 ∧ x.stopped = false
        then { x with phase := .data } else x } } := by
  simp only [State.frameErrorMet, hfirst]
  by_cases hown : s.line.rx.own = true ∧ bytes ≠ []
  · obtain ⟨hown, hbytes⟩ := hown
    simp [hown, hbytes, funext InFlight.passByte0_eq]
  · have hb : (s.line.rx.own && !bytes.isEmpty) = false := by simpa using hown
    have hnot : ∀ p : Prop, ¬ (s.line.rx.own = true ∧ bytes ≠ [] ∧ p) := fun p h => hown ⟨h.1, h.2.1⟩
    simp [hb, hnot]

/-- Settles O38: each command by the phase and the band in which it acts. -/
theorem receiverFollowsTheLine : Obligations.ReceiverFollowsTheLine := by
  refine ⟨fun s dt hphase hflight hresponse => ?_, fun s dt us hphase hlow hhigh => ⟨fun hflight => ?_,
      fun x hx hstart hstopped => ?_⟩,
    fun s dt us bytes hphase hlow hhigh hband => ?_, ?_,
    fun s dt us bytes hphase hopening hlen hlow hhigh => ?_⟩
  · have hstep : exec (.lineIdle dt) s = done { s.advance dt with
        line := { s.line with phase := .idle, echoWait := false } } := by
      show done (lineIdleStep (s.advance dt)) = _
      have hown : s.line.holdsOwn = false := by simp [LineControl.holdsOwn, hflight, hresponse]
      unfold lineIdleStep
      rw [State.advance_line, hown, hphase, if_neg Bool.false_ne_true]
      exact congrArg done (endAttempt_none hflight)
    exact completes_of_done hstep ⟨rfl, elsewhere_of_same⟩
  · have hstep : exec (.sosReceived dt us) s = done _ :=
      congrArg done (sosReceivedStep_sos (s := s.advance dt) hphase hlow hhigh)
    refine completes_of_done hstep ⟨?_, elsewhere_of_same⟩
    simp [hflight, RxAssembly.empty]
  · have hstep : exec (.sosReceived dt us) s = done _ :=
      congrArg done (sosReceivedStep_sos (s := s.advance dt) hphase hlow hhigh)
    refine completes_of_done hstep ⟨?_, elsewhere_of_same⟩
    simp [hx, RxAssembly.empty, InFlight.starting, InFlight.passSos, hstart, hstopped]
  · have hstep : exec (.receiveFramingError dt (.dominant us) bytes) s = done _ :=
      congrArg done (receiveFramingErrorStep_idle (s := s.advance dt) hphase hlow hhigh hband)
    refine completes_of_done hstep ⟨?_, rfl, elsewhere_of_same⟩
    rw [← funext InFlight.passSos_eq]
    rfl
  · intro s dt cause bytes hphase hfirst tb hcause
    obtain ⟨herror, hsane⟩ := frameFramingError_of_cause hcause
    have hstep : exec (.receiveFramingError dt cause bytes) s = done _ :=
      congrArg done (receiveFramingErrorStep_frame (s := s.advance dt) hphase herror hsane)
    rw [frameErrorMet_eq bytes (by exact hfirst)] at hstep
    exact completes_of_done hstep ⟨rfl, elsewhere_of_same⟩
  · obtain ⟨o, ho, hshape⟩ : ∃ o, s.line.rx.opening = some o ∧ o ≠ .misshapen := by
      obtain ho | ho := hopening
      · exact ⟨_, ho, by decide⟩
      · exact ⟨_, ho, by decide⟩
    have hstep : exec (.receiveFramingError dt (.dominant us) bytes) s = done _ :=
      congrArg done (receiveFramingErrorStep_response (s := s.advance dt) hphase ho hshape hlen hlow hhigh)
    rw [responseErrorMet_eq] at hstep
    exact completes_of_done hstep ⟨rfl, rfl, elsewhere_of_same⟩

end Sys2Proof.Machine
end

section
/-! PROOFS. Responses in the window, and the start of a frame (08 R127, R132 to R134; 05 R80). -/

namespace Sys2Proof.Machine

/-! ## The window (08 R132) -/

/-- What a framing error in a response leaves: noted and counted where it is the frame's first. -/
theorem noteResponseError_eq (s : State) (broken : Bool) :
    s.noteResponseError broken = { s with
      line := { s.line with rx := { s.line.rx with
        firstError := if broken = true ∧ s.line.rx.firstError = none then some .framing
          else s.line.rx.firstError } }
      counters := { s.counters with
        framingErrors := if broken = true ∧ s.line.rx.firstError = none then bump s.counters.framingErrors
          else s.counters.framingErrors } } := by
  by_cases h : broken = true ∧ s.line.rx.firstError = none
  · obtain ⟨rfl, hfirst⟩ := h
    simp [State.noteResponseError, State.countRxError, hfirst]
  · have hsound : (broken && s.line.rx.firstError.isNone) = false := by
      simpa [Option.isSome_iff_ne_none] using h
    simp [State.noteResponseError, hsound, h]

/-- A response that is none of a claim in flight. -/
theorem responseSeenStep_idle {s : State} {us : Nat} {kind : FrameKind} (hphase : s.line.phase = .window)
    (hlow : 10 * Machine.bitTime s.control.straps.rate < 12 * us)
    (hhigh : 2 * us < 3 * Machine.bitTime s.control.straps.rate) (hk : frameKind s.line.rx.bytes = some kind)
    (hflight : s.line.inFlight = none) :
    responseSeenStep s us = { s with
      line := { s.line with
        phase := .response
        rx := { s.line.rx with
          firstError := if kind.drawsResponse = false ∧ s.line.rx.firstError = none then some .framing
            else s.line.rx.firstError
          opening := some .short } }
      counters := { s.counters with
        framingErrors := if kind.drawsResponse = false ∧ s.line.rx.firstError = none then bump s.counters.framingErrors
          else s.counters.framingErrors } } := by
  have hopening : openingOf s.bitTime us = .short := by
    rw [openingOf, State.bitTime, classify_short hlow hhigh]
  have hlong : s.bitTime < 6 * us := by
    show Machine.bitTime s.control.straps.rate < 6 * us
    omega
  have hshape : (Opening.short == Opening.misshapen) = false := rfl
  unfold responseSeenStep
  simp [hphase, hopening, hlong, hk, noteResponseError_eq, State.claimInFlight, hflight, hshape]

theorem updateClaims_one {s : State} {c : Claim} (h : s.admission.claims = [c]) (f : Claim → Claim) :
    s.updateClaims f = { s with admission := { s.admission with claims := [f c] } } := by
  simp [State.updateClaims, h]

/-- A response after this station's own CLAIM. -/
theorem responseSeenStep_claim {s : State} {us : Nat} (hphase : s.line.phase = .window)
    (hlow : Machine.bitTime s.control.straps.rate < 6 * us) (hflight : s.claimInFlight = true) :
    ∃ firstError framingErrors, responseSeenStep s us = State.updateClaims { s with
      line := { s.line with
        phase := .response
        rx := { s.line.rx with firstError, opening := some (openingOf s.bitTime us) } }
      counters := { s.counters with framingErrors } } Claim.sawResponse := by
  unfold responseSeenStep
  rw [if_pos (by simp [hphase, State.bitTime, hlow])]
  dsimp only
  rw [noteResponseError_eq]
  dsimp only
  rw [if_pos (by exact hflight)]
  exact ⟨_, _, rfl⟩

/-! ## This station's own response (08 R133, R134) -/

theorem stopResponse_eq {l : LineControl} {r : ResponseDrive} (h : l.response = some r) :
    l.stopResponse = { l with response := some { r with stopped := true } } := by
  simp [LineControl.stopResponse, h, ResponseDrive.stop]

/-- Settles O39: the four responses, by the kind of the frame and by whose response it is. -/
theorem responsesAreSeen : Obligations.ResponsesAreSeen := by
  refine ⟨fun s dt us hphase hlow hhigh hk hflight => ?_,
    fun s dt us hphase hlow hhigh hk hflight hfirst => ?_,
    fun s dt us x c hphase hlow hx hkind hclaims hc hl => ?_, ?_⟩
  · have hstep : exec (.responseSeen dt us) s = done _ :=
      congrArg done (responseSeenStep_idle (s := s.advance dt) hphase hlow hhigh hk hflight)
    exact completes_of_done hstep ⟨rfl, elsewhere_of_same⟩
  · have hstep : exec (.responseSeen dt us) s = done _ :=
      congrArg done (responseSeenStep_idle (s := s.advance dt) hphase hlow hhigh hk hflight)
    rw [if_pos (by exact ⟨rfl, hfirst⟩), if_pos (by exact ⟨rfl, hfirst⟩)] at hstep
    exact completes_of_done hstep ⟨rfl, rfl, elsewhere_of_same⟩
  · have hown : (s.advance dt).claimInFlight = true := by simp [State.claimInFlight, hx, hkind]
    obtain ⟨firstError, framingErrors, hseen⟩ := responseSeenStep_claim (s := s.advance dt) hphase hlow hown
    have hstep : exec (.responseSeen dt us) s = done _ := congrArg done hseen
    rw [updateClaims_one (by exact hclaims)] at hstep
    refine completes_of_done hstep ⟨?_, rfl, hx, elsewhere_of_same⟩
    show { s.admission with claims := [c.sawResponse] } = _
    simp [Claim.sawResponse, hc, hl]
  · intro s dt r cell hflight hr hs given
    have hgiven : (s.advance dt).line.stopResponse = given := stopResponse_eq hr
    refine ⟨fun hobjection hcell hdriven => ?_, fun hdriven => ?_⟩
    · have hstep : exec (.arbitrationLoss dt cell) s = done { s.advance dt with line := given } := by
        show done (arbitrationLossStep (s.advance dt) cell) = _
        rw [← hgiven]
        unfold arbitrationLossStep
        simp [hflight, hr, hs, hobjection, hcell, hdriven]
      exact completes_of_done hstep ⟨rfl, elsewhere_of_same⟩
    · have herror : (bitErrorCell r.bytes cell || r.isReply && (cellOf r.bytes cell).isSome) = true := by
        obtain hdriven | ⟨hreply, hdriven⟩ := hdriven
        · simp [bitErrorCell, hdriven]
        · simp [hreply, hdriven]
      have hstep : exec (.bitError dt cell) s = done (State.countBitError { s.advance dt with line := given }) := by
        show done (bitErrorStep (s.advance dt) cell) = _
        rw [← hgiven]
        unfold bitErrorStep
        simp only [State.advance_line, hflight, hr, hs, herror]
        rfl
      exact completes_of_done hstep ⟨rfl, rfl, elsewhere_of_same⟩

/-! ## The start of a frame (08 R127; 05 R80) -/

/-- A ready station on a NORMAL line offers its first frame. -/
theorem offered_normal {s : State} (hn : s.line.state = .normal) (hm : s.control.mode ≠ .failed)
    (hd : s.line.holdDemand = false) (hx : s.line.inFlight = none) (hr : s.line.response = none)
    (he : s.line.echoWait = false) : s.offered = s.line.txq.head? := by
  simp [State.offered, hn, hm, hd, hx, hr, he]

theorem recheckPasses_one {s : State} {c : Claim} (h : s.admission.claims = [c]) (hc : c.state = .offeredQueued) :
    s.recheckPasses = s.offerable c := by
  simp [State.recheckPasses, h, hc]

/-- FRAME_START of a frame that is no CLAIM. -/
theorem frameStartStep_plain {s : State} {f : TxFrame} {join : Bool} (hp : s.line.phase = .idle)
    (ho : s.offered = some f) (hk : f.kind ≠ .claim) : frameStartStep s join = s.drive f join := by
  unfold frameStartStep
  rw [if_neg (by simp [hp]), ho]
  exact if_neg hk

/-- FRAME_START of a CLAIM that passes its recheck. -/
theorem frameStartStep_passes {s : State} {f : TxFrame} {join : Bool} (hp : s.line.phase = .idle)
    (ho : s.offered = some f) (hk : f.kind = .claim) (hc : s.recheckPasses = true) :
    frameStartStep s join = s.startClaim f join := by
  unfold frameStartStep
  rw [if_neg (by simp [hp]), ho]
  simp [hk, hc]

/-- FRAME_START of a CLAIM that fails its recheck, with no other frame to offer. -/
theorem frameStartStep_fails {s : State} {f : TxFrame} {join : Bool} (hp : s.line.phase = .idle)
    (ho : s.offered = some f) (hk : f.kind = .claim) (hc : s.recheckPasses = false)
    (hnext : s.failRecheck.offered = none) : frameStartStep s join = s.failRecheck := by
  unfold frameStartStep
  rw [if_neg (by simp [hp]), ho]
  simp [hk, hc, hnext]

/-- A failed recheck takes the CLAIM back, and its claim waits. -/
theorem failRecheck_one {s : State} {f : TxFrame} {c : Claim} (hq : s.line.txq = [f]) (hk : f.kind = .claim)
    (hclaims : s.admission.claims = [c]) (hc : c.state = .offeredQueued) (ho : s.offerable c = false) :
    s.failRecheck = { s with
      line := { s.line with txq := [] }
      admission := { s.admission with claims := [{ c with state := .waiting }] } } := by
  have hback : c.callBack = { c with state := .waiting } := by simp [Claim.callBack, hc]
  have hqueue : s.line.txq.filter (fun g => g.kind != .claim) = [] := by simp [hq, hk]
  unfold State.failRecheck State.removeClaimFrame
  rw [updateClaims_one hclaims, hback]
  dsimp only
  rw [hqueue]
  refine preCheck_rests fun d hd => ?_
  obtain rfl := Option.some.inj hd
  exact .inr (.inl ho)

/-- Settles O40: by the kind of the first frame and its recheck. -/
theorem readyStationStartsItsFirstFrame : Obligations.ReadyStationStartsItsFirstFrame := by
  intro s dt join f rest hp hn hm hd hx hr he hq
  have ho : (s.advance dt).offered = some f :=
    (offered_normal (s := s.advance dt) hn hm hd hx hr he).trans (by rw [State.advance_line, hq]; rfl)
  refine ⟨fun hk => ?_, fun c hk hclaims hc hoffer => ?_, fun c hk hclaims hc hoffer hrest => ?_⟩
  · have hstep : exec (.frameStart dt join) s = done _ := congrArg done (frameStartStep_plain hp ho hk)
    exact completes_of_done hstep ⟨rfl, elsewhere_of_same⟩
  · have hpasses : (s.advance dt).recheckPasses = true := (recheckPasses_one hclaims hc).trans hoffer
    have hstep : exec (.frameStart dt join) s = done _ := congrArg done (frameStartStep_passes hp ho hk hpasses)
    rw [State.startClaim, updateClaims_one (by exact hclaims)] at hstep
    refine completes_of_done hstep ⟨rfl, ?_, rfl, elsewhere_of_same⟩
    show { s.admission with claims := [c.takeOff] } = _
    simp [Claim.takeOff, hc]
  · subst hrest
    have hfails : (s.advance dt).recheckPasses = false := (recheckPasses_one hclaims hc).trans hoffer
    have hback := failRecheck_one (s := s.advance dt) hq hk hclaims hc hoffer
    have hnext : (s.advance dt).failRecheck.offered = none := by
      rw [hback]
      exact offered_normal hn hm hd hx hr he
    have hstep : exec (.frameStart dt join) s = done _ :=
      congrArg done (frameStartStep_fails hp ho hk hfails hnext)
    rw [hback] at hstep
    exact completes_of_done hstep ⟨rfl, rfl, elsewhere_of_same⟩

end Sys2Proof.Machine
end

section
/-! PROOFS. Attempts that end early, echo faults and isolation (08 R128 to R131, R139; 05 R83, R88, R90). -/

namespace Sys2Proof.Machine

/-! ## The three causes (08 R128 to R130) -/

/-- The line when the attempt of the frame in flight has ended: the receiver reads on as a receiver. -/
def LineControl.grounded (l : LineControl) : LineControl :=
  { l with inFlight := none, rx := { l.rx with own := false } }

theorem endAttempt_some {s : State} {x : InFlight} (h : s.line.inFlight = some x) :
    s.endAttempt = State.attemptEnded { s with line := s.line.grounded } x.frame := by
  unfold State.endAttempt
  rw [h]
  rfl

/-- A frame that its sender drives in the cell: byte 0 while no later byte has been seen, or a later cell. -/
theorem drives_of_phase {f : TxFrame} {phase : TxPhase} {joined : Bool} {cell : Nat}
    (h : phase = .byte0 ∨ phase = .data ∧ 8 ≤ cell) :
    (InFlight.mk f phase joined false).drives cell = true := by
  obtain rfl | ⟨rfl, hcell⟩ := h
  · rfl
  · simp [InFlight.drives, hcell]

theorem cellOf_isSome {bytes : List Byte} {cell : Nat} (h : cell < 8 * bytes.length) :
    ∃ b, cellOf bytes cell = some b := by
  have hlt : cell / 8 < bytes.length := by omega
  exact ⟨_, by rw [cellOf, List.getElem?_eq_getElem hlt]; rfl⟩

theorem bitErrorCell_of_driven {bytes : List Byte} {cell : Nat} (hlen : cell < 8 * bytes.length)
    (h : 8 ≤ cell ∨ cellOf bytes cell = some false) : bitErrorCell bytes cell = true := by
  obtain hcell | hcell := h
  · obtain ⟨b, hb⟩ := cellOf_isSome hlen
    simp [bitErrorCell, hb, hcell]
  · simp [bitErrorCell, hcell]

theorem arbitrationLossStep_lost {s : State} {x : InFlight} {cell : Nat} (hx : s.line.inFlight = some x)
    (hd : x.drives cell = true) (hcell : cell < 8) (hdriven : cellOf x.frame.bytes cell = some true) :
    arbitrationLossStep s cell = State.attemptEnded { s with
      line := s.line.grounded
      counters := { s.counters with arbitrationLosses := bump s.counters.arbitrationLosses } } x.frame := by
  unfold arbitrationLossStep
  rw [hx]
  simp only [hd, hcell, hdriven]
  exact endAttempt_some hx

theorem bitErrorStep_error {s : State} {x : InFlight} {cell : Nat} (hx : s.line.inFlight = some x)
    (hd : x.drives cell = true) (hdriven : bitErrorCell x.frame.bytes cell = true) :
    bitErrorStep s cell = State.attemptEnded { s with
      line := s.line.grounded
      counters := { s.counters with bitErrors := bump s.counters.bitErrors } } x.frame := by
  unfold bitErrorStep
  rw [hx]
  simp only [hd, hdriven]
  exact endAttempt_some hx

/-- The line after an echo fault: one more of the run, and the wait for recessive. -/
def LineControl.faulted (l : LineControl) : LineControl :=
  { l.grounded with noEchoRun := min (l.noEchoRun + 1) 3, echoWait := true }

/-- The state after an echo fault and the end of the attempt. -/
def State.echoFault (s : State) (f : TxFrame) : State :=
  State.attemptEnded { s with
    line := s.line.faulted
    counters := { s.counters with noEchoFaults := bump s.counters.noEchoFaults } } f

/-- NO_ECHO_FAULT of a station that drives SOS alone: the third in a row isolates a NORMAL line. -/
theorem noEchoFaultStep_eq {s : State} {f : TxFrame} (hx : s.line.inFlight = some ⟨f, .start, false, false⟩) :
    noEchoFaultStep s = if 2 ≤ s.line.noEchoRun ∧ s.line.state = .normal then
        (if f.use = .failedStatus then (s.echoFault f).removeFrame f else s.echoFault f).isolate
      else s.echoFault f := by
  have hend : State.endAttempt { s with
      counters := { s.counters with noEchoFaults := bump s.counters.noEchoFaults }
      line := { s.line with noEchoRun := min (s.line.noEchoRun + 1) 3, echoWait := true } } = s.echoFault f :=
    endAttempt_some (x := ⟨f, .start, false, false⟩) hx
  have hstate : (s.echoFault f).line.state = s.line.state := attemptEnded_lineState _ f
  have hrun : min (s.line.noEchoRun + 1) 3 = 3 ↔ 2 ≤ s.line.noEchoRun := by omega
  unfold noEchoFaultStep
  rw [hx]
  dsimp only
  rw [hend, hstate, if_neg (by simp [InFlight.starting])]
  simp [hrun]

theorem noEchoFaultStep_counted {s : State} {f : TxFrame} (hx : s.line.inFlight = some ⟨f, .start, false, false⟩)
    (h : s.line.noEchoRun < 2 ∨ s.line.state ≠ .normal) : noEchoFaultStep s = s.echoFault f := by
  rw [noEchoFaultStep_eq hx, if_neg]
  rintro ⟨hrun, hnormal⟩
  obtain h | h := h
  · omega
  · exact h hnormal

theorem noEchoFaultStep_isolates {s : State} {f : TxFrame} (hx : s.line.inFlight = some ⟨f, .start, false, false⟩)
    (hu : f.use = .ordinary) (hrun : s.line.noEchoRun = 2) (hs : s.line.state = .normal) :
    noEchoFaultStep s = (s.echoFault f).isolate := by
  rw [noEchoFaultStep_eq hx, if_pos ⟨hrun.ge, hs⟩, if_neg (by simp [hu])]

/-! ## What follows for the frame and its claim (05 R83, R88, R90; 08 R139) -/

theorem attemptEnded_plain (s : State) {f : TxFrame} (hk : f.kind ≠ .claim) (hu : f.use ≠ .isolation) :
    s.attemptEnded f = s := by
  unfold State.attemptEnded
  cases h : f.use with
  | isolation => exact absurd h hu
  | ordinary => exact if_neg hk
  | replay => exact if_neg hk
  | failedStatus => exact if_neg hk

theorem attemptEnded_isolation (s : State) {f : TxFrame} (hu : f.use = .isolation) :
    s.attemptEnded f = s.isolationFailed := by
  unfold State.attemptEnded
  rw [hu]

theorem attemptEnded_claim (s : State) {f : TxFrame} (hk : f.kind = .claim) (hu : f.use ≠ .isolation) :
    s.attemptEnded f = s.claimAttemptEnded.dropUncoordinated := by
  unfold State.attemptEnded
  cases h : f.use with
  | isolation => exact absurd h hu
  | ordinary => exact if_pos hk
  | replay => exact if_pos hk
  | failedStatus => exact if_pos hk

theorem filter_noClaim (q : List TxFrame) :
    (q.filter fun g => g.kind != .claim) = q.filter fun g => g.kind ≠ .claim :=
  List.filter_congr fun g _ => by by_cases hk : g.kind = .claim <;> simp [hk]

/-- At a coordinated station a claim without a late mark is offered with its frame queued (05 R83). -/
theorem attemptEnded_offered {s : State} {f : TxFrame} {c : Claim} {rest : List Claim} (hk : f.kind = .claim)
    (hu : f.use ≠ .isolation) (hc : s.admission.claims = c :: rest) (hs : c.state = .offeredInFlight)
    (hd : ∀ d ∈ rest, d.vehicle.tag ≠ c.vehicle.tag) (hl : c.lateMark = none) (ho : s.coordinated = true) :
    s.attemptEnded f =
      { s with admission := { s.admission with claims := { c with state := .offeredQueued } :: rest } } := by
  rw [attemptEnded_claim s hk hu, claimAttemptEnded_head hc hs hl hd]
  exact dropUncoordinated_coordinated ho

/-- A late-marked claim leaves with its frame (05 R88), and nothing follows for the head after it. -/
theorem attemptEnded_late {s : State} {f : TxFrame} {c : Claim} {rest : List Claim} (hk : f.kind = .claim)
    (hu : f.use ≠ .isolation) (hc : s.admission.claims = c :: rest) (hs : c.state = .offeredInFlight)
    (hd : ∀ d ∈ rest, d.vehicle.tag ≠ c.vehicle.tag) (hl : c.lateMark ≠ none)
    (hw : rest = [] ∨ s.coordinated = true ∧ ∀ d, rest.head? = some d → d.state ≠ .waiting) :
    s.attemptEnded f = { s with
      admission := { s.admission with claims := rest }
      line := { s.line with txq := s.line.txq.filter fun g => g.kind ≠ .claim } } := by
  rw [attemptEnded_claim s hk hu, ← filter_noClaim]
  obtain rfl | ⟨ho, hw⟩ := hw
  · rw [claimAttemptEnded_late hc hs hl hd (by simp)]
    exact dropUncoordinated_none rfl
  · rw [claimAttemptEnded_late hc hs hl hd hw]
    exact dropUncoordinated_coordinated ho

/-- The only claim, without a late mark, at a station no longer coordinated leaves with its frame, and its
vehicle is diverted (05 R90). -/
theorem attemptEnded_uncoordinated {s : State} {f : TxFrame} {c : Claim} (hk : f.kind = .claim)
    (hu : f.use ≠ .isolation) (hc : s.admission.claims = [c]) (hs : c.state = .offeredInFlight)
    (hl : c.lateMark = none) (ho : s.coordinated = false) :
    s.attemptEnded f = (State.finishClaim { s with
      admission := { s.admission with claims := [] }
      line := { s.line with txq := s.line.txq.filter fun g => g.kind ≠ .claim } }
        { c with state := .offeredQueued } .divertUncoordinated) := by
  rw [attemptEnded_claim s hk hu, claimAttemptEnded_head hc hs hl (by simp),
    dropUncoordinated_one (c := { c with state := .offeredQueued }) (by exact ho) rfl (by simp) hl,
    txqWithout_grounded (by simp), if_pos rfl]

/-- Settles O42: the three causes leave the same, but for what they count; then by the frame and its claim. -/
theorem attemptsEndByLossErrorOrFault : Obligations.AttemptsEndByLossErrorOrFault := by
  intro s dt f phase joined cell e line counters hx sends stopped hcause removed
  have hstep : exec e s = done (State.attemptEnded { s.advance dt with line := line, counters := counters } f) := by
    obtain ⟨rfl, ⟨hphase, _⟩, hcell, hdriven, rfl, rfl⟩ | ⟨rfl, ⟨hphase, hlen⟩, hdriven, rfl, rfl⟩
      | ⟨rfl, rfl, rfl, _, hrun, rfl, rfl⟩ := hcause
    · exact congrArg done (arbitrationLossStep_lost (s := s.advance dt) hx (drives_of_phase hphase) hcell hdriven)
    · exact congrArg done (bitErrorStep_error (s := s.advance dt) hx (drives_of_phase hphase)
        (bitErrorCell_of_driven hlen hdriven))
    · exact congrArg done (noEchoFaultStep_counted (s := s.advance dt) hx hrun)
  have hcoordinated : (State.coordinated { s.advance dt with line := line, counters := counters }) = s.coordinated := by
    obtain ⟨_, _, _, _, rfl, _⟩ | ⟨_, _, _, rfl, _⟩ | ⟨_, _, _, _, _, rfl, _⟩ := hcause <;> rfl
  refine ⟨fun hk hu => ?_, fun hu => ?_, fun c rest hk hu hclaims hc htags => ⟨fun hl ho => ?_, fun hl hw => ?_,
    fun hl ho hrest hroom => ?_⟩⟩
  · rw [attemptEnded_plain _ hk hu] at hstep
    exact completes_of_done hstep ⟨rfl, rfl, elsewhere_of_same⟩
  · rw [attemptEnded_isolation _ hu] at hstep
    exact completes_of_done hstep ⟨rfl, rfl, elsewhere_of_same⟩
  · rw [attemptEnded_offered hk hu (by exact hclaims) hc htags hl (hcoordinated.trans ho)] at hstep
    exact completes_of_done hstep ⟨rfl, rfl, rfl, elsewhere_of_same⟩
  · rw [attemptEnded_late hk hu (by exact hclaims) hc htags hl (by rw [hcoordinated]; exact hw)] at hstep
    exact completes_of_done hstep ⟨rfl, rfl, rfl, elsewhere_of_same⟩
  · subst hrest
    rw [attemptEnded_uncoordinated hk hu (by exact hclaims) hc hl (hcoordinated.trans ho)] at hstep
    have hdiverted := divertedClaim_settle (s := s) (dt := dt) (c := { c with state := .offeredQueued })
      (o := .divertUncoordinated) (w := { s.advance dt with
        line := removed, counters := counters, admission := { s.admission with claims := [] } })
      rfl hroom rfl rfl rfl rfl rfl
    have hfinished := finishClaim_room (s := { s.advance dt with
        line := removed, counters := counters, admission := { s.admission with claims := [] } })
      { c with state := .offeredQueued } .divertUncoordinated hroom
    rw [hfinished] at hdiverted
    exact completes_of_done (hstep.trans (congrArg done hfinished)) ⟨rfl, rfl, hdiverted, elsewhere_of_same⟩

/-! ## Isolation (08 R139; 06 R106) -/

/-- The line of a station that an echo fault isolates. -/
def LineControl.isolatedAt (l : LineControl) (now : Time) : LineControl :=
  { l with state := .isolated, isolationTimer := some (now + 5000) }

/-- Isolation raises LINE_FAULT, and the station is no longer coordinated. -/
theorem isolate_eq {s : State} (hs : s.control.sense = none) :
    s.isolate = State.dropUncoordinated { s with
      line := s.line.isolatedAt s.now
      control := { s.control with sense := some ⟨.lineFault, 0, none, s.now⟩ } } := by
  unfold State.isolate
  dsimp only
  rw [raise_eq]
  simp only [hs, Option.getD_none, if_true]
  rfl

theorem isolate_noClaims {s : State} (hs : s.control.sense = none) (hc : s.admission.claims = []) :
    s.isolate = { s with
      line := s.line.isolatedAt s.now
      control := { s.control with sense := some ⟨.lineFault, 0, none, s.now⟩ } } := by
  rw [isolate_eq hs]
  exact dropUncoordinated_none hc

/-- The state that the third echo fault of a CLAIM leaves, but for the end of its claim (08 R139). -/
def State.thirdFault (s : State) : State :=
  { s with
    line := { s.line.faulted.isolatedAt s.now with txq := s.line.txq.filter fun g => g.kind ≠ .claim }
    counters := { s.counters with noEchoFaults := bump s.counters.noEchoFaults }
    control := { s.control with sense := some ⟨.lineFault, 0, none, s.now⟩ }
    admission := { s.admission with claims := [] } }

/-- The only claim, without a late mark, ends at the third fault of its CLAIM, be the station still
coordinated before it or not (05 R83, R90). -/
theorem thirdFault_diverts {s : State} {f : TxFrame} {c : Claim} (hk : f.kind = .claim) (hu : f.use ≠ .isolation)
    (hc : s.admission.claims = [c]) (hs : c.state = .offeredInFlight) (hl : c.lateMark = none)
    (hsense : s.control.sense = none) (hroom : (s.line.txq.filter fun g => g.kind ≠ .claim).length < 8) :
    (s.echoFault f).isolate =
      s.thirdFault.finishClaim { c with state := .offeredQueued } .divertUncoordinated := by
  cases ho : s.coordinated with
  | true =>
    have hfault : s.echoFault f = _ := attemptEnded_offered hk hu (by exact hc) hs (by simp) hl (by exact ho)
    rw [hfault, isolate_eq (by exact hsense),
      dropUncoordinated_one (c := { c with state := .offeredQueued }) (by simp [State.coordinated,
        LineControl.isolatedAt]) rfl (by simp) hl, txqWithout_grounded (by simp), if_pos rfl]
    rfl
  | false =>
    have hfault : s.echoFault f = _ := attemptEnded_uncoordinated hk hu (by exact hc) hs hl (by exact ho)
    rw [hfault, finishClaim_room _ _ (by exact hroom), finishClaim_room _ _ (by exact hroom),
      isolate_noClaims (by exact hsense) rfl]
    rfl

theorem faulted_third {l : LineControl} (h : l.noEchoRun = 2) :
    l.faulted = { l with noEchoRun := 3, echoWait := true, inFlight := none, rx := { l.rx with own := false } } := by
  simp [LineControl.faulted, LineControl.grounded, h]

/-- The isolation timer's end builds the isolation frame, unless the station is FAILED. -/
theorem isolationTimerExpiryStep_builds {s : State} (hs : s.line.state = .isolated)
    (he : s.expired s.line.isolationTimer = true) (hm : s.control.mode ≠ .failed) :
    isolationTimerExpiryStep s = { s with line := { s.line with
      isolationTimer := none
      isolationFrame := some
        { kind := .status, bytes := frameBytes s.control.straps.number .status s.statusPage0
          use := .isolation, arrival := s.line.nextArrival } } } := by
  simp [isolationTimerExpiryStep, hs, he, hm]

/-! ## The end of this station's own frame (08 R126, R131) -/

/-- The receiver after the end of a frame to which no response is driven (08 R123, R126). -/
def LineControl.over (l : LineControl) : LineControl :=
  { l with phase := .idle, rx := .empty, echoWait := false }

/-- END_OF_FRAME of this station's own frame in whose window no response was seen. -/
theorem endOfFrame_ownSilent {s : State} {x : InFlight} {levels : List Nat} (hx : s.line.inFlight = some x)
    (hs : x.stopped = false) (ho : s.line.rx.own = true) (hd : s.line.holdDemand = false)
    (hp : s.line.phase = .window) (hr : s.line.response = none) :
    endOfFrameStep s levels = State.completeFrame { s with
      line := s.line.over, handler := { s.handler with prepared := none } } x.frame false
        (readObjection s.bitTime s.line.rx.opening levels) := by
  have hover : s.frameOver = { s with
      line := s.line.over, handler := { s.handler with prepared := none } } := by
    unfold State.frameOver LineControl.over
    rw [← hr]
  rw [endOfFrame_own hx hs ho hd (.inl hp) hr, hp, ← hover]
  rfl

/-- What the completion of a frame counts, before anything that follows for the frame (08 R131). -/
def State.sent (s : State) : State :=
  { s with
    counters := { s.counters with framesSent := bump s.counters.framesSent }
    line := { s.line with noEchoRun := 0, inFlight := none } }

/-- A station that learns or is active learns afresh when its isolation ends. -/
theorem endIsolation_learns {s : State} (hm : s.control.mode = .learning ∨ s.control.mode = .active) :
    s.endIsolation = State.startLearning { s with line := { s.line with
      state := .normal, isolationFrame := none, isolationTimer := none } } := by
  unfold State.endIsolation
  obtain hm | hm := hm <;> simp [hm]

/-- The isolation frame completes, with no claim held. -/
theorem completeFrame_isolation {s : State} {f : TxFrame} (objection : Objection) (hk : f.kind = .status)
    (hu : f.use = .isolation) (hm : s.control.mode = .learning ∨ s.control.mode = .active)
    (hc : s.admission.claims = []) :
    s.completeFrame f false objection = State.startLearning { s.sent with line := { s.sent.line with
      state := .normal, isolationFrame := none, isolationTimer := none } } := by
  unfold State.completeFrame
  dsimp only
  rw [if_pos hu, hk, endIsolation_learns (by exact hm), dropUncoordinated_none (by exact hc),
    preCheck_none (by exact hc), State.replayAfter, if_neg (by simp [hu])]
  rfl

/-- Settles O41: a plain frame's faults, a CLAIM's third, the timer, and the isolation frame's end. -/
theorem echoFaultsIsolateTheLine : Obligations.EchoFaultsIsolateTheLine := by
  refine ⟨fun s dt f hx hu hk hnormal => ⟨fun hrun => ?_, fun hrun hsense hclaims => ?_⟩, ?_,
    fun s dt finish hstate htimer hfinish hmode => ?_, ?_⟩
  · have hstep : exec (.noEchoFault dt) s = done _ :=
      congrArg done (noEchoFaultStep_counted (s := s.advance dt) hx (.inl hrun))
    rw [State.echoFault, attemptEnded_plain _ hk (by simp [hu])] at hstep
    have hmin : min (s.line.noEchoRun + 1) 3 = s.line.noEchoRun + 1 := by omega
    refine completes_of_done hstep ⟨?_, rfl, elsewhere_of_same⟩
    rw [← hmin]
    rfl
  · have hstep : exec (.noEchoFault dt) s = done _ :=
      congrArg done (noEchoFaultStep_isolates (s := s.advance dt) hx hu hrun hnormal)
    rw [State.echoFault, attemptEnded_plain _ hk (by simp [hu]), isolate_noClaims (by exact hsense)
      (by exact hclaims), State.advance_line, faulted_third hrun] at hstep
    exact completes_of_done hstep ⟨rfl, rfl, rfl, elsewhere_of_same⟩
  · intro s dt f c hx hk hu hnormal hrun hsense hclaims hc isolated common
    have hiso : f.use ≠ .isolation := by simp [hu]
    have hline : (s.advance dt).thirdFault.line = isolated := by
      unfold State.thirdFault
      rw [State.advance_line, faulted_third hrun]
      rfl
    have hstep : exec (.noEchoFault dt) s = done _ :=
      congrArg done (noEchoFaultStep_isolates (s := s.advance dt) hx hu hrun hnormal)
    refine ⟨fun hl hroom => ?_, fun hl => ?_⟩
    · have hroom' : (s.advance dt).thirdFault.line.txq.length < 8 := hroom
      rw [thirdFault_diverts hk hiso (by exact hclaims) hc hl (by exact hsense) hroom'] at hstep
      have hdiverted := divertedClaim_settle (s := s) (dt := dt) (c := { c with state := .offeredQueued })
        (o := .divertUncoordinated) (w := (s.advance dt).thirdFault) rfl hroom' rfl rfl rfl rfl rfl
      rw [hline] at hdiverted
      rw [finishClaim_room _ _ hroom'] at hdiverted hstep
      exact completes_of_done hstep ⟨⟨rfl, rfl, rfl⟩, hdiverted, elsewhere_of_same⟩
    · have hthird : ((s.advance dt).echoFault f).isolate = (s.advance dt).thirdFault := by
        have hfault : (s.advance dt).echoFault f = _ :=
          attemptEnded_late hk hiso (by exact hclaims) hc (by simp) hl (.inl rfl)
        rw [hfault, isolate_noClaims (by exact hsense) rfl]
        rfl
      rw [hthird] at hstep
      exact completes_of_done hstep ⟨⟨rfl, rfl, rfl⟩, hline, elsewhere_of_same⟩
  · have hexpired : (s.advance dt).expired s.line.isolationTimer = true := by
      rw [State.expired, htimer]
      exact hfinish
    have hstep : exec (.isolationTimerExpiry dt) s = done _ :=
      congrArg done (isolationTimerExpiryStep_builds (s := s.advance dt) hstate hexpired hmode)
    exact completes_of_done hstep ⟨⟨_, rfl, rfl, rfl, rfl⟩, elsewhere_of_same⟩
  · intro s dt x hx hs hk hu hp ho hr hd hmode hclaims cap
    have hstep : exec (.endOfFrame dt []) s = done _ :=
      congrArg done (endOfFrame_ownSilent (s := s.advance dt) hx hs ho hd hp hr)
    rw [completeFrame_isolation _ hk hu (by exact hmode) (by exact hclaims)] at hstep
    have hcap : (((s.advance dt).site?.map fun site => site.dwellCap * 100).getD learningWithoutCalibration) = cap := by
      cases hcal : s.control.calibration <;> simp [State.site?, hcal, cap, learningWithoutCalibration]
    refine completes_of_done hstep ⟨rfl, rfl, ?_, rfl, elsewhere_of_same⟩
    rw [← hcap]
    exact control_same_settle

end Sys2Proof.Machine
end

section
/-! PROOFS. The end of data, and the ends of this station's own frames (08 R125, R126, R131; 06 R95 to R104). -/

namespace Sys2Proof.Machine

/-! ## The end of data (08 R125; 06 R95 to R99) -/

/-- In DISCARD the first error noted stands. -/
theorem endOfDataStep_discard {s : State} (operand : List Byte) (hp : s.line.phase = .discard)
    (hown : s.line.rx.own = false) (hd : s.line.holdsOwn = false) :
    endOfDataStep s operand =
      (s.readFrame s.line.rx.bytes (some (s.line.rx.firstError.getD .framing))).decideResponse s.line.rx.bytes
        false := by
  have hjudged := judgeReceived_eq s s.line.rx.bytes (some (s.line.rx.firstError.getD .framing))
  simp [endOfDataStep, hp, hown, hd]
  exact hjudged

/-- The state after the end of data of another station's frame, with the error found and the code of the
objection driven. -/
def State.judgedAs (s : State) (bytes : List Byte) (error : Option RxError) (objection : Option Nat) : State :=
  { s with
    line := { s.line with
      phase := .window
      rx := { bytes, firstError := error, own := false, good := error.isNone, opening := none }
      response := objection.map fun code =>
        { bytes := [byteOf (16 * code + s.control.straps.number.toNat)], isReply := false, stopped := false } }
    counters := { s.counters with
      crcErrors := if error = some .crc then bump s.counters.crcErrors else s.counters.crcErrors
      framingErrors := if error = some .framing then bump s.counters.framingErrors else s.counters.framingErrors
      formatErrors := if error = some .format then bump s.counters.formatErrors else s.counters.formatErrors
      objectionsSent := if objection.isSome then bump s.counters.objectionsSent
        else s.counters.objectionsSent } }

/-- A frame is read with its error counted in exactly one class. -/
theorem readFrame_eq {s : State} (bytes : List Byte) (error : Option RxError) (hr : s.line.response = none) :
    s.readFrame bytes error = s.judgedAs bytes error none := by
  unfold State.readFrame State.judgedAs
  rw [Option.map_none, ← hr]
  obtain _ | _ | _ | _ := error <;> rfl

/-- A coordinated station that demands no HOLD drives its objection. -/
theorem judgedAs_objects {s : State} {bytes : List Byte} {error : Option RxError} (reason : Reason)
    (ho : s.coordinated = true) (hd : s.line.holdDemand = false) :
    (s.judgedAs bytes error none).driveObjection reason = s.judgedAs bytes error (some reason.code) := by
  obtain ⟨hmode, _, _, hnormal⟩ := (coordinated_iff s).1 ho
  simp [State.driveObjection, State.judgedAs, hmode, hnormal, hd, Objection.toByte]

theorem judgedAs_judgeClaim (s : State) (bytes : List Byte) (error : Option RxError) (good : Bool) :
    (s.judgedAs bytes error none).judgeClaim bytes good = s.judgeClaim bytes good := rfl

/-- The response to a CLAIM is the objection that its judgement finds. -/
theorem decideResponse_claim {s : State} {bytes : List Byte} {error : Option RxError} {objection : Option Reason}
    (hk : frameKind bytes = some .claim) (hd : s.line.holdDemand = false)
    (hj : s.judgeClaim bytes error.isNone = objection) (ho : objection.isSome → s.coordinated = true) :
    (s.judgedAs bytes error none).decideResponse bytes error.isNone =
      s.judgedAs bytes error (objection.map Reason.code) := by
  unfold State.decideResponse
  rw [hk, judgedAs_judgeClaim, hj]
  cases objection with
  | none => rfl
  | some reason => exact judgedAs_objects reason (ho rfl) hd

/-- No response is driven to a frame that is neither a CLAIM nor a COMMAND received good for this station. -/
theorem decideResponse_silent {s : State} {bytes : List Byte} {good : Bool} (hk : frameKind bytes ≠ some .claim)
    (h : frameKind bytes ≠ some .command ∨ good = false ∨ frameTarget bytes ≠ s.control.straps.number) :
    s.decideResponse bytes good = s := by
  unfold State.decideResponse
  cases hkind : frameKind bytes with
  | none => rfl
  | some k =>
    cases k
    case claim => exact absurd hkind hk
    case command =>
      obtain h | rfl | h := h
      · exact absurd hkind h
      · rfl
      · simp [h]
    all_goals rfl

theorem judgeClaim_uncoordinated {s : State} (bytes : List Byte) (good : Bool) (h : s.coordinated = false) :
    s.judgeClaim bytes good = none := by
  simp [State.judgeClaim, h]

/-- A CLAIM that was damaged, or whose number or dwell cannot be, draws CANNOT_VOUCH (06 R95, R98). -/
theorem judgeClaim_foul {s : State} {bytes : List Byte} {good : Bool} (ho : s.coordinated = true)
    (h : good = false ∨ frameSource bytes = s.control.straps.number
      ∨ (claimPayloadOf (framePayload bytes)).dwell = 0 ∨ s.dwellCap < (claimPayloadOf (framePayload bytes)).dwell) :
    s.judgeClaim bytes good = some .cannotVouch := by
  unfold State.judgeClaim
  rw [ho, Bool.not_true, if_neg Bool.false_ne_true]
  cases good with
  | false => rfl
  | true =>
    dsimp only
    rw [Bool.not_true, if_neg Bool.false_ne_true]
    obtain h | hsource | hdwell := h
    · exact absurd h.symm Bool.false_ne_true
    · rw [if_pos hsource]
    · rw [if_pos hdwell, ite_self]

/-- A CLAIM that can be vouched for draws the first failing reason of R94, and silence where its key is held. -/
theorem judgeClaim_tested {s : State} {bytes : List Byte} {cal : Calibration} (ho : s.coordinated = true)
    (hcal : s.control.calibration = some cal) (hs : frameSource bytes ≠ s.control.straps.number)
    (hlow : 1 ≤ (claimPayloadOf (framePayload bytes)).dwell)
    (hhigh : (claimPayloadOf (framePayload bytes)).dwell ≤ s.dwellCap) :
    s.judgeClaim bytes true =
      if s.span.holds (frameSource bytes) (claimPayloadOf (framePayload bytes)).tag = true then none
      else claimTest cal.site s.span (claimPayloadOf (framePayload bytes)).assessedGross := by
  have hdwell : ¬ ((claimPayloadOf (framePayload bytes)).dwell = 0
      ∨ s.dwellCap < (claimPayloadOf (framePayload bytes)).dwell) := by omega
  have hsite : s.site? = some cal.site := by simp [State.site?, hcal]
  unfold State.judgeClaim
  rw [ho, hsite]
  dsimp only
  rw [if_neg hs, if_neg hdwell]
  rfl

/-- Settles O43: the frame is read with its error, and then the response is decided by its kind. -/
theorem framesAreJudgedAtEndOfData : Obligations.FramesAreJudgedAtEndOfData := by
  refine ⟨?_, fun s dt bytes x hown hx hs hd hp => ?_⟩
  · intro s dt bytes operand error hown hd hr hread number p judged
    have hjudged : ∀ objection : Option Nat,
        (State.judgedAs (s.advance dt) bytes error none).decideResponse bytes error.isNone
          = (s.advance dt).judgedAs bytes error objection → judged objection := by
      intro objection hresponse
      have hstep : exec (.endOfData dt operand) s = done ((s.advance dt).judgedAs bytes error objection) := by
        rw [← hresponse, ← readFrame_eq bytes error (by exact hr)]
        obtain ⟨hp, rfl, rfl⟩ | ⟨hp, hfirst, rfl, hne, hlen, rfl⟩ := hread
        · exact congrArg done (endOfDataStep_discard (s := s.advance dt) operand hp hown (holdsOwn_noDemand hd))
        · have hframe := endOfDataStep_frame (s := s.advance dt) hp hown (holdsOwn_noDemand hd) hne hlen
          rw [State.advance_line, hfirst] at hframe
          exact congrArg done hframe
      exact completes_of_done hstep ⟨rfl, rfl, elsewhere_of_same⟩
    have hdamaged : error ≠ none → error.isNone = false := fun h => by
      rwa [Option.isNone_eq_false_iff, Option.isSome_iff_ne_none]
    refine ⟨fun cal hk ho hcal => ?_, fun hk ho => ?_, fun hk h => ?_⟩
    · have hcap : s.dwellCap = cal.site.dwellCap := by simp [State.dwellCap, State.siteOr, State.site?, hcal]
      have hclaim : ∀ objection : Option Reason, (s.advance dt).judgeClaim bytes error.isNone = objection →
          judged (objection.map Reason.code) := fun objection hj =>
        hjudged _ (decideResponse_claim hk hd hj fun _ => ho)
      refine ⟨fun herror => ?_, fun herror hfoul => ?_, fun herror hs hlow hhigh => ⟨fun hheld => ?_, fun hfree => ?_⟩⟩
      · exact hclaim _ (judgeClaim_foul (s := s.advance dt) ho (.inl (hdamaged herror)))
      · exact hclaim _ (judgeClaim_foul (s := s.advance dt) ho (.inr (by rw [← hcap] at hfoul; exact hfoul)))
      · refine hclaim none ?_
        rw [herror]
        exact (judgeClaim_tested (s := s.advance dt) ho hcal hs hlow (hhigh.trans hcap.ge)).trans (if_pos hheld)
      · refine hclaim _ ?_
        rw [herror]
        exact (judgeClaim_tested (s := s.advance dt) ho hcal hs hlow (hhigh.trans hcap.ge)).trans
          (if_neg (by rw [State.advance_span, hfree]; exact Bool.false_ne_true))
    · exact hjudged none (decideResponse_claim (s := s.advance dt) (objection := none) hk hd
        (judgeClaim_uncoordinated _ _ ho) (fun h => (nomatch h)))
    · refine hjudged none (decideResponse_silent hk ?_)
      obtain h | h | h := h
      · exact .inl h
      · exact .inr (.inl (hdamaged h))
      · exact .inr (.inr h)
  · have hstep : exec (.endOfData dt bytes) s = done ((s.advance dt).ownEndOfData x) := by
      show done (endOfDataStep (s.advance dt) bytes) = _
      unfold endOfDataStep
      obtain hp | hp := hp <;> simp [hown, hx, hp, holdsOwn_noDemand hd]
    exact completes_of_done hstep ⟨rfl, elsewhere_of_same⟩

end Sys2Proof.Machine
end

section
/-! PROOFS. The ends of frames (08 R126, R131, R132, R140; 05 R81, R82, R88, R90; 06 R96 to R104; 10 R162). -/

namespace Sys2Proof.Machine

/-! ## Departures and grants at the view (06 R96, R100, R101) -/

theorem find_none {t : SpanTable} {origin : StationNo} {tag : Tag} (h : t.holds origin tag = false) :
    t.find origin tag = none :=
  List.find?_eq_none.2 fun e he hkey => Bool.false_ne_true (h.symm.trans (List.any_eq_true.2 ⟨e, he, hkey⟩))

theorem applyDepart_unknown {s : State} {key : StationNo × Tag} (hm : s.control.mode ≠ .failed)
    (h : s.span.holds key.1 key.2 = false) :
    s.applyDepart key.1 key.2 = { s with counters := { s.counters with
      unknownDepartures := bump s.counters.unknownDepartures } } := by
  simp [State.applyDepart, hm, find_none h]

/-- The entry that a DEPART names leaves the view, with no claim held. -/
theorem applyDepart_held {s : State} {key : StationNo × Tag} {before after : List SpanEntry} {e : SpanEntry}
    (hm : s.control.mode ≠ .failed) (hc : s.admission.claims = []) (hs : s.span.entries = before ++ e :: after)
    (hkey : (e.origin, e.tag) = key) (hb : ∀ x ∈ before, (x.origin, x.tag) ≠ key) :
    s.applyDepart key.1 key.2 = { s with span := { s.span with
      entries := before ++ after, sum := s.span.sum - e.assessedGross, count := s.span.count - 1 } } := by
  subst hkey
  obtain ⟨hfind, hremove⟩ := find_split hs fun x hx hxe => hb x hx (Prod.ext hxe.1 hxe.2)
  simp [State.applyDepart, hm, hfind, removeEntry_noClaims hc, hremove]

theorem addEntry_joins {s : State} {origin : StationNo} {p : ClaimPayload} (hm : s.control.mode ≠ .failed)
    (h : s.span.holds origin p.tag = false) (hroom : s.span.entries.length < 32) :
    s.addEntry origin p = { s with span := { s.span with
      entries := s.span.entries ++ [s.entryOf origin p], sum := s.span.sum + p.assessedGross
      count := s.span.count + 1 } } := by
  have hroom' : ¬ spanCapacity ≤ s.span.entries.length := Nat.not_le.2 hroom
  simp [State.addEntry, hm, h, hroom']
  rfl

theorem addEntry_held {s : State} {origin : StationNo} {p : ClaimPayload} (hm : s.control.mode ≠ .failed)
    (h : s.span.holds origin p.tag = true) :
    s.addEntry origin p = { s with span := { s.span with duplicates := bump s.span.duplicates } } := by
  simp [State.addEntry, hm, h]

theorem addEntry_full {s : State} {origin : StationNo} {p : ClaimPayload} (hm : s.control.mode ≠ .failed)
    (h : s.span.holds origin p.tag = false) (hfull : s.span.entries.length = 32) :
    s.addEntry origin p = { s with span := { s.span with lost := bump s.span.lost } } := by
  have hfull' : spanCapacity ≤ s.span.entries.length := hfull.ge
  simp [State.addEntry, hm, h, hfull']

/-! ## This station's own frame completes (08 R131) -/

/-- The frame that has been sent leaves the queue by its arrival. -/
theorem removeFrame_only {s : State} {f : TxFrame} {before after : List TxFrame}
    (hq : s.line.txq = before ++ f :: after) (h : ∀ g ∈ before ++ after, g.arrival ≠ f.arrival) :
    s.removeFrame f = { s with line := { s.line with txq := before ++ after } } := by
  have hkept : ∀ l : List TxFrame, (∀ g ∈ l, g ∈ before ++ after) →
      l.filter (fun g => g.arrival != f.arrival) = l := fun l hl =>
    List.filter_eq_self.2 fun g hg => bne_iff_ne.2 (h g (hl g hg))
  have hbefore := hkept before fun g hg => List.mem_append_left _ hg
  have hafter := hkept after fun g hg => List.mem_append_right _ hg
  simp [State.removeFrame, hq, List.filter_append, hbefore, hafter]

/-- A frame that is neither a CLAIM nor a DEPART. -/
theorem completeFrame_other {s : State} {f : TxFrame} (seen : Bool) (objection : Objection) (hk : f.kind ≠ .claim)
    (hk' : f.kind ≠ .depart) (hu : f.use ≠ .isolation) (hc : s.admission.claims = []) :
    s.completeFrame f seen objection = (s.sent.removeFrame f).replayAfter f := by
  unfold State.completeFrame
  dsimp only
  rw [if_neg hu]
  cases hkind : f.kind
  case depart => exact absurd hkind hk'
  case claim => exact absurd hkind hk
  all_goals
    dsimp only
    rw [dropUncoordinated_none (by exact hc), preCheck_none (by exact hc)]
    rfl

/-- A DEPART is applied to this station's own view. -/
theorem completeFrame_depart {s u : State} {f : TxFrame} (seen : Bool) (objection : Objection)
    (hk : f.kind = .depart) (hu : f.use ≠ .isolation) (hr : f.use ≠ .replay)
    (hstep : (s.sent.removeFrame f).applyDepart (departKey (framePayload f.bytes)).1
      (departKey (framePayload f.bytes)).2 = u) (hc : u.admission.claims = []) :
    s.completeFrame f seen objection = u := by
  have hreplay : (f.use == .replay) = false := by simp [hr]
  unfold State.completeFrame
  dsimp only
  rw [if_neg hu, hk]
  refine Eq.trans ?_ ((congrArg (·.replayAfter f)
    ((congrArg State.preCheck (dropUncoordinated_none hc)).trans (preCheck_none hc))).trans ?_)
  · rw [← hstep]
    rfl
  · rw [State.replayAfter, hreplay, if_neg Bool.false_ne_true]

/-- The state after a sent frame has left the queue. -/
def State.sentOff (s : State) (left : List TxFrame) : State :=
  { s with
    line := { s.line.over with noEchoRun := 0, inFlight := none, txq := left }
    counters := { s.counters with framesSent := bump s.counters.framesSent }
    handler := { s.handler with prepared := none } }

theorem replayAfter_notReplay (s : State) {f : TxFrame} (h : f.use ≠ .replay) : s.replayAfter f = s := by
  simp [State.replayAfter, h]

/-- The next frame of a replay joins the queue (11 R170). -/
theorem replayAfter_next {s : State} {f : TxFrame} {g : ReplayFrame} {rest : List ReplayFrame}
    (hu : f.use = .replay) (h : s.handler.replay = some (g :: rest)) (hroom : s.line.txq.length < 8) :
    s.replayAfter f = { s with
      line := { s.line with txq := insertFrame (s.frameOf g.kind .replay g.payload) s.line.txq }
      handler := { s.handler with replay := some rest } } := by
  rw [State.replayAfter, if_pos (by simp [hu]), State.replayNext, h]
  dsimp only
  rw [putFrame_room (by exact hroom)]
  rfl

theorem replayAfter_over {s : State} {f : TxFrame} (hu : f.use = .replay) (h : s.handler.replay = some []) :
    s.replayAfter f = { s with handler := { s.handler with replay := none } } := by
  rw [State.replayAfter, if_pos (by simp [hu]), State.replayNext, h]

/-- Settles O46: by the frame's kind and use. -/
theorem ownFramesComplete : Obligations.OwnFramesComplete := by
  intro s dt x before after hx hs hp ho hr hd hclaims hq huniq hk hiso left ended sent handler key
  have hstep : exec (.endOfFrame dt []) s = done _ :=
    congrArg done (endOfFrame_ownSilent (s := s.advance dt) hx hs ho hd hp hr)
  have hsent : (State.sent { s.advance dt with
      line := (s.advance dt).line.over, handler := { (s.advance dt).handler with prepared := none } }).removeFrame x.frame
        = (s.advance dt).sentOff left := removeFrame_only (by exact hq) huniq
  refine ⟨fun hdepart hreplay => ?_, fun hdepart hreplay hm hfree => ?_,
    fun front back e hdepart hreplay hm hentries hkey hfront => ?_, fun g rest hdepart hreplay hnext hroom => ?_,
    fun hdepart hreplay hover => ?_⟩
  · rw [completeFrame_other _ _ hk hdepart hiso (by exact hclaims), hsent, replayAfter_notReplay _ hreplay] at hstep
    exact completes_of_done hstep ⟨rfl, rfl, rfl, elsewhere_of_same⟩
  · have happlied := applyDepart_unknown (s := (s.advance dt).sentOff left) (key := key) hm hfree
    rw [completeFrame_depart _ _ hdepart hiso hreplay ((congrArg (State.applyDepart · _ _) hsent).trans happlied)
      (by exact hclaims)] at hstep
    exact completes_of_done hstep ⟨rfl, rfl, rfl, elsewhere_of_same⟩
  · have happlied := applyDepart_held (s := (s.advance dt).sentOff left) (key := key) hm hclaims hentries hkey hfront
    rw [completeFrame_depart _ _ hdepart hiso hreplay ((congrArg (State.applyDepart · _ _) hsent).trans happlied)
      (by exact hclaims)] at hstep
    exact completes_of_done hstep ⟨rfl, rfl, rfl, rfl, elsewhere_of_same⟩
  · rw [completeFrame_other _ _ hk hdepart hiso (by exact hclaims), hsent,
      replayAfter_next hreplay (by exact hnext) (by exact hroom)] at hstep
    exact completes_of_done hstep ⟨⟨_, rfl, rfl, rfl, rfl⟩, rfl, rfl, elsewhere_of_same⟩
  · rw [completeFrame_other _ _ hk hdepart hiso (by exact hclaims), hsent,
      replayAfter_over hreplay (by exact hover)] at hstep
    exact completes_of_done hstep ⟨rfl, rfl, rfl, elsewhere_of_same⟩

end Sys2Proof.Machine
end

section
/-! PROOFS. What the end of another station's frame, and of this station's own CLAIM, brings (05, 06, 08, 10). -/

namespace Sys2Proof.Machine

/-! ## The end of a frame in whose window something was read (08 R132) -/

/-- The response read in the window breaks the shape that its opening symbol gives (08 R132, log 45). -/
def State.responseBreaks (s : State) (levels : List Nat) : Bool :=
  match s.line.phase, s.line.rx.opening with
  | .response, some .short => responseBroken s.bitTime .short levels
  | .response, some .long => responseBroken s.bitTime .long levels
  | _, _ => false

theorem responseBreaks_window {s : State} (levels : List Nat) (h : s.line.phase = .window) :
    s.responseBreaks levels = false := by
  simp [State.responseBreaks, h]

theorem responseBreaks_opening {s : State} {o : Opening} (levels : List Nat) (h : s.line.phase = .response)
    (ho : s.line.rx.opening = some o) :
    s.responseBreaks levels = (decide (o ≠ .misshapen) && responseBroken s.bitTime o levels) := by
  unfold State.responseBreaks
  rw [h, ho]
  cases o <;> rfl

/-- END_OF_FRAME of another station's frame received good. -/
theorem endOfFrame_heard {s : State} {levels : List Nat} (hx : s.line.inFlight = none)
    (ho : s.line.rx.own = false) (hg : s.line.rx.good = true)
    (hd : s.line.holdDemand = false ∨ s.line.response = none)
    (hp : s.line.phase = .window ∨ s.line.phase = .response) :
    endOfFrameStep s levels =
      (s.noteResponseError (s.responseBreaks levels)).frameOver.handOn s.line.rx.bytes
        (s.line.phase == .response || s.line.response.isSome) s.handler.prepared s.line.response := by
  have hground : (s.noteResponseError (s.responseBreaks levels)).frameOver.line.inFlight = none := by
    rw [noteResponseError_eq]
    exact hx
  have hholds : s.line.holdsOwn = false := by
    obtain hd | hd := hd <;> simp [LineControl.holdsOwn, hd, hx]
  have hphase : (s.line.holdsOwn || s.line.phase != .window && s.line.phase != .response) = false := by
    obtain hp | hp := hp <;> simp [hholds, hp]
  unfold endOfFrameStep
  rw [hphase, if_neg Bool.false_ne_true]
  dsimp only
  rw [ho, if_neg Bool.false_ne_true]
  exact (congrArg (fun u : State => if s.line.rx.good = true then u.handOn s.line.rx.bytes
    (s.line.phase == .response || s.line.response.isSome) s.handler.prepared s.line.response else u)
    (endStopped_none hground)).trans (if_pos hg)

/-! ## The hand-on by kind (08 R126) -/

/-- What a CLAIM in whose window no response was seen leaves, it being another station's (06 R96). -/
theorem handOn_granted {s u : State} {bytes : List Byte} {prepared : Option Prepared}
    {response : Option ResponseDrive} (hk : frameKind bytes = some .claim)
    (h : s.addEntry (frameSource bytes) (claimPayloadOf (framePayload bytes)) = u)
    (hs : frameSource bytes ≠ u.control.straps.number) : s.handOn bytes false prepared response = u := by
  subst h
  unfold State.handOn
  rw [hk]
  exact if_neg fun hown => hs hown.1

/-- A CLAIM in whose window a response was seen adds no entry (06 R96). -/
theorem handOn_objected {s : State} {bytes : List Byte} {prepared : Option Prepared}
    {response : Option ResponseDrive} (hk : frameKind bytes = some .claim)
    (hs : frameSource bytes ≠ s.control.straps.number) : s.handOn bytes true prepared response = s := by
  unfold State.handOn
  rw [hk]
  exact if_neg fun hown => hs hown.1

theorem handOn_depart {s u : State} {bytes : List Byte} {seen : Bool} {prepared : Option Prepared}
    {response : Option ResponseDrive} (hk : frameKind bytes = some .depart)
    (h : s.applyDepart (departKey (framePayload bytes)).1 (departKey (framePayload bytes)).2 = u)
    (hs : frameSource bytes ≠ u.control.straps.number) : s.handOn bytes seen prepared response = u := by
  subst h
  unfold State.handOn
  rw [hk]
  exact if_neg fun hown => hs hown.1

/-- Settles O44: by the frame's kind, the key that it names and the table's room; then the CLAIM objected to. -/
theorem grantsAndDepartsReachTheView : Obligations.GrantsAndDepartsReachTheView := by
  refine ⟨?_, fun s dt levels broken ho hg hx hd hk hs hresponse => ?_⟩
  · intro s dt hp ho hg hr hx hm hs source p key dwell ended
    have hstep : exec (.endOfFrame dt []) s = done _ :=
      congrArg done (endOfFrame_other (s := s.advance dt) (levels := []) hx ho hg (.inr hr) (.inl hp))
    have hseen : ((s.advance dt).line.phase == .response || (s.advance dt).line.response.isSome) = false := by
      rw [State.advance_line, hp, hr]
      rfl
    rw [hseen, State.advance_line] at hstep
    refine ⟨fun hk hfree hroom => ?_, fun hk hheld => ?_, fun hk hfree hfull => ?_, fun hk hfree => ?_,
      fun before after e hk hentries hkey hbefore hclaims => ?_⟩
    · rw [handOn_granted (by exact hk) (addEntry_joins (by exact hm) (by exact hfree) (by exact hroom))
        (by exact hs)] at hstep
      exact completes_of_done hstep ⟨⟨rfl, rfl⟩, elsewhere_of_same, rfl⟩
    · rw [handOn_granted (by exact hk) (addEntry_held (by exact hm) (by exact hheld)) (by exact hs)] at hstep
      exact completes_of_done hstep ⟨⟨rfl, rfl⟩, elsewhere_of_same, rfl⟩
    · rw [handOn_granted (by exact hk) (addEntry_full (by exact hm) (by exact hfree) (by exact hfull))
        (by exact hs)] at hstep
      exact completes_of_done hstep ⟨⟨rfl, rfl⟩, elsewhere_of_same, rfl⟩
    · rw [handOn_depart (by exact hk) (applyDepart_unknown (by exact hm) (by exact hfree)) (by exact hs)] at hstep
      exact completes_of_done hstep ⟨⟨rfl, rfl⟩, elsewhere_of_same, rfl⟩
    · have happlied : (s.advance dt).frameOver.applyDepart key.1 key.2 = _ :=
        applyDepart_held hm hclaims hentries hkey hbefore
      rw [handOn_depart (by exact hk) happlied (by exact hs)] at hstep
      exact completes_of_done hstep ⟨⟨rfl, rfl⟩, elsewhere_of_same, rfl⟩
  · have hphase : s.line.phase = .window ∨ s.line.phase = .response := by
      obtain ⟨hp, _⟩ | ⟨hp, _⟩ := hresponse
      · exact .inl hp
      · exact .inr hp
    have hseen : ((s.advance dt).line.phase == .response || (s.advance dt).line.response.isSome) = true := by
      obtain ⟨hp, hr, _⟩ | ⟨hp, _⟩ := hresponse
      · simp [Option.isSome_iff_ne_none.2 hr]
      · simp [hp]
    have hbreaks : (s.advance dt).responseBreaks levels = broken := by
      obtain ⟨hp, _, rfl⟩ | ⟨hp, o, hopening, rfl⟩ := hresponse
      · exact responseBreaks_window levels hp
      · exact responseBreaks_opening levels hp hopening
    have hstep : exec (.endOfFrame dt levels) s = done _ :=
      congrArg done (endOfFrame_heard (s := s.advance dt) hx ho hg hd hphase)
    rw [hseen, hbreaks, noteResponseError_eq, handOn_objected (by exact hk) (by exact hs)] at hstep
    exact completes_of_done hstep ⟨rfl, rfl, rfl, elsewhere_of_same⟩

end Sys2Proof.Machine
end

section
/-! PROOFS. The end of this station's own CLAIM (05 R81, R82, R88, R90; 08 R131 to R133). -/

namespace Sys2Proof.Machine

/-! ## The end of an own frame that drew a response (08 R132) -/

/-- END_OF_FRAME of this station's own frame in whose window a response was seen. -/
theorem endOfFrame_ownSeen {s : State} {x : InFlight} {levels : List Nat} (hx : s.line.inFlight = some x)
    (hs : x.stopped = false) (ho : s.line.rx.own = true) (hd : s.line.holdDemand = false)
    (hp : s.line.phase = .response) (hr : s.line.response = none) :
    endOfFrameStep s levels = State.completeFrame { s with
      line := s.line.over
      counters := { s.counters with
        framingErrors := if s.responseBreaks levels = true ∧ s.line.rx.firstError = none
          then bump s.counters.framingErrors else s.counters.framingErrors }
      handler := { s.handler with prepared := none } } x.frame true
        (readObjection s.bitTime s.line.rx.opening levels) := by
  have hover : (s.noteResponseError (s.responseBreaks levels)).frameOver = { s with
      line := s.line.over
      counters := { s.counters with
        framingErrors := if s.responseBreaks levels = true ∧ s.line.rx.firstError = none
          then bump s.counters.framingErrors else s.counters.framingErrors }
      handler := { s.handler with prepared := none } } := by
    rw [noteResponseError_eq, State.frameOver, LineControl.over]
    rw [← hr]
  rw [← hover, endOfFrame_own hx hs ho hd (.inr hp) hr, hp]
  unfold State.responseBreaks
  rw [hp]
  rfl

/-- A CLAIM completes: its claim is granted or has drawn an objection (08 R131; 05 R81, R82). -/
theorem completeFrame_claim {s u : State} {f : TxFrame} {seen : Bool} {objection : Objection}
    (hk : f.kind = .claim) (hu : f.use = .ordinary)
    (h : (if seen = true then (s.sent.removeFrame f).claimObjected objection
      else (s.sent.removeFrame f).claimGranted (framePayload f.bytes)) = u) :
    s.completeFrame f seen objection = u.dropUncoordinated.preCheck := by
  subst h
  have hiso : f.use ≠ .isolation := by simp [hu]
  have hreplay : f.use ≠ .replay := by simp [hu]
  unfold State.completeFrame
  dsimp only
  rw [if_neg hiso, hk, replayAfter_notReplay _ hreplay]
  rfl

/-! ## The claim (05 R81, R82, R88) -/

/-- With no claim left nothing more follows (05 R79, R90). -/
theorem dropUncoordinated_preCheck_none {s : State} (h : s.admission.claims = []) :
    s.dropUncoordinated.preCheck = s := by
  rw [dropUncoordinated_none h, preCheck_none h]

/-- The entry of a granted own CLAIM joins the view, and the grant is counted. -/
def State.granted (s : State) (p : ClaimPayload) : State :=
  { s with
    span := { s.span with
      entries := s.span.entries ++ [s.entryOf s.control.straps.number p], sum := s.span.sum + p.assessedGross
      count := s.span.count + 1 }
    counters := { s.counters with claimsGranted := bump s.counters.claimsGranted } }

/-- A granted own CLAIM: the vehicle is ADMITTED, or its late grant is withdrawn (05 R81, R88). -/
theorem claimGranted_eq {s : State} {payload : List Byte} {c : Claim} (hm : s.control.mode ≠ .failed)
    (hfree : s.span.holds s.control.straps.number (claimPayloadOf payload).tag = false)
    (hroom : s.span.entries.length < 32) (hc : s.admission.claims = [c]) (hs : c.state = .offeredInFlight) :
    s.claimGranted payload =
      if c.lateMark = none then ((s.granted (claimPayloadOf payload)).dropClaim c.vehicle.tag).finishClaim c .admitted
      else ((s.granted (claimPayloadOf payload)).enqueue .depart .ordinary
        (departPayload s.control.straps.number c.vehicle.tag 2)).dropClaim c.vehicle.tag := by
  have hflying : ∀ u : State, u.admission = s.admission → u.flyingClaim = some c := fun u hu =>
    flyingClaim_head (by rw [hu]; exact hc) hs
  unfold State.claimGranted
  dsimp only
  rw [addEntry_joins hm hfree hroom, hflying _ (by rfl)]
  dsimp only
  cases hl : c.lateMark <;> rfl

/-- A claim in BACKOFF, with the objection that it drew (05 R82). -/
def Claim.backedOff (c : Claim) (finish : Time) (objection : Objection) : Claim :=
  { c with state := .backoff finish, objectionSeen := true, lastObjection := some objection }

theorem claimObjected_backsOff {s : State} {c : Claim} (objection : Objection) (hc : s.admission.claims = [c])
    (hs : c.state = .offeredInFlight) (hl : c.lateMark = none) :
    s.claimObjected objection = { s with admission := { s.admission with
      claims := [c.backedOff (s.now + 500) objection] } } := by
  unfold State.claimObjected
  rw [flyingClaim_head hc hs]
  dsimp only
  rw [hl]
  exact mapClaim_head hc (by simp)

theorem claimObjected_late {s : State} {c : Claim} (objection : Objection) (hc : s.admission.claims = [c])
    (hs : c.state = .offeredInFlight) (hl : c.lateMark ≠ none) :
    s.claimObjected objection = { s with admission := { s.admission with claims := [] } } := by
  obtain ⟨o, ho⟩ := Option.ne_none_iff_exists'.1 hl
  unfold State.claimObjected
  rw [flyingClaim_head hc hs]
  dsimp only
  rw [ho]
  exact dropClaim_head hc (by simp)

/-! ## The objection read (08 R133) -/

/-- The data cells of an objection byte. -/
def objectionCells (reason : Reason) (objector : StationNo) : List (Option Bool) :=
  (List.range 8).map (cellOf [Objection.toByte { reason, objector }])

/-- Every objection byte is whole, and its cells carry the reason and the objector. -/
theorem objectionCells_value (reason : Reason) : ∀ objector : StationNo,
    (objectionCells reason objector).any (·.isNone) = false
      ∧ (objectionCells reason objector).foldl (fun acc c => acc * 2 + bit (c.getD false)) 0
        = 16 * reason.code + objector.toNat := by
  cases reason <;> decide

theorem readObjection_whole {tb : Nat} {levels : List Nat} {reason : Reason} {objector : StationNo}
    (h : responseCells tb levels = objectionCells reason objector) :
    readObjection tb (some .short) levels = { reason, objector } := by
  obtain ⟨hwhole, hvalue⟩ := objectionCells_value reason objector
  have hlen : (objectionCells reason objector).length = 8 := by simp [objectionCells]
  have hsound : responseBroken tb .short levels = false := by
    simp [responseBroken, h, hwhole, hlen, Opening.cells]
  have ho := objector.isLt
  have hcode : (16 * reason.code + objector.toNat) / 16 = reason.code := by omega
  have hobjector : (BitVec.ofNat 4 (16 * reason.code + objector.toNat) : StationNo) = objector := by
    apply BitVec.eq_of_toNat_eq
    rw [BitVec.toNat_ofNat]
    omega
  simp only [readObjection, h, hvalue, hsound, hlen, hcode, hobjector]
  cases reason <;> rfl

/-! ## The own CLAIM ends -/

/-- The only frame queued leaves when it has been sent. -/
theorem sent_only {s : State} {f : TxFrame} (hq : s.line.txq = [f]) :
    s.sent.removeFrame f = { s.sent with line := { s.sent.line with txq := [] } } :=
  removeFrame_only (before := []) (after := []) hq (by simp)

/-- END_OF_FRAME of the own CLAIM, the only frame queued, that drew no response. -/
theorem endOfFrame_ownGranted {s : State} {x : InFlight} {levels : List Nat} (hx : s.line.inFlight = some x)
    (hk : x.frame.kind = .claim) (hu : x.frame.use = .ordinary) (hs : x.stopped = false) (ho : s.line.rx.own = true)
    (hd : s.line.holdDemand = false) (hq : s.line.txq = [x.frame]) (hr : s.line.response = none)
    (hp : s.line.phase = .window) :
    endOfFrameStep s levels =
      ((s.sentOff []).claimGranted (framePayload x.frame.bytes)).dropUncoordinated.preCheck := by
  rw [endOfFrame_ownSilent hx hs ho hd hp hr, completeFrame_claim hk hu rfl, if_neg Bool.false_ne_true,
    sent_only (by exact hq)]
  rfl

/-- The state after the own CLAIM has left the queue, a shape broken at its end counted (08 R132). -/
def State.sentOffHeard (s : State) (o : Opening) (levels : List Nat) : State :=
  { s.sentOff [] with counters := { s.counters with
      framesSent := bump s.counters.framesSent
      framingErrors := if s.line.rx.firstError = none ∧ o ≠ .misshapen
          ∧ responseBroken (Machine.bitTime s.control.straps.rate) o levels = true
        then bump s.counters.framingErrors else s.counters.framingErrors } }

/-- The same without its claim. -/
def State.sentOffUnclaimed (s : State) (o : Opening) (levels : List Nat) : State :=
  { s.sentOffHeard o levels with admission := { s.admission with claims := [] } }

/-- END_OF_FRAME of the own CLAIM, the only frame queued, that drew a response. -/
theorem endOfFrame_ownObjected {s : State} {x : InFlight} {levels : List Nat} {o : Opening}
    (hx : s.line.inFlight = some x) (hk : x.frame.kind = .claim) (hu : x.frame.use = .ordinary)
    (hs : x.stopped = false) (ho : s.line.rx.own = true) (hd : s.line.holdDemand = false)
    (hq : s.line.txq = [x.frame]) (hr : s.line.response = none) (hp : s.line.phase = .response)
    (hopening : s.line.rx.opening = some o) :
    endOfFrameStep s levels = ((s.sentOffHeard o levels).claimObjected
      (readObjection (Machine.bitTime s.control.straps.rate) (some o) levels)).dropUncoordinated.preCheck := by
  have hbroken : s.responseBreaks levels = true ∧ s.line.rx.firstError = none ↔
      s.line.rx.firstError = none ∧ o ≠ .misshapen
        ∧ responseBroken (Machine.bitTime s.control.straps.rate) o levels = true := by
    rw [responseBreaks_opening levels hp hopening, Bool.and_eq_true, decide_eq_true_iff, and_comm]
    rfl
  rw [endOfFrame_ownSeen hx hs ho hd hp hr, completeFrame_claim hk hu rfl, if_pos rfl, sent_only (by exact hq),
    hopening]
  simp only [hbroken]
  rfl

/-- Settles O45: granted or objected to, by the late mark and the station's coordination. -/
theorem ownClaimEndsGrantedOrObjected : Obligations.OwnClaimEndsGrantedOrObjected := by
  refine ⟨?_, fun tb levels reason objector h => readObjection_whole h⟩
  intro s dt x c levels hx hk hu hs ho hd hq hr hclaims hc hm p own tb dwell ended
  refine ⟨fun hp hfree hroom => ?_, ?_⟩
  · have hstep : exec (.endOfFrame dt levels) s = done _ :=
      congrArg done (endOfFrame_ownGranted (s := s.advance dt) hx hk hu hs ho hd hq hr hp)
    have hdropped : (((s.advance dt).sentOff []).granted p).dropClaim c.vehicle.tag = _ :=
      dropClaim_head (rest := []) hclaims (by simp)
    have hempty : ((s.advance dt).sentOff []).line.txq.length < 8 := Nat.zero_lt_succ 7
    rw [claimGranted_eq (by exact hm) (by exact hfree) (by exact hroom) (by exact hclaims) hc] at hstep
    cases hl : c.lateMark with
    | none =>
      rw [if_pos hl, hdropped, finishClaim_room _ _ (by exact hempty),
        dropUncoordinated_preCheck_none rfl] at hstep
      refine completes_of_done hstep ⟨rfl, rfl, rfl, fun _ => ⟨⟨_, rfl, rfl, rfl⟩, ?_⟩,
        fun h => absurd rfl h, rfl, elsewhere_of_same⟩
      simp only [beq_iff_eq]
      rfl
    | some mark =>
      rw [if_neg (by simp [hl]), enqueue_room (by exact hempty), dropClaim_head (rest := []) (by exact hclaims)
        (by simp), dropUncoordinated_preCheck_none rfl] at hstep
      exact completes_of_done hstep ⟨rfl, rfl, rfl, fun h => (nomatch h), fun _ => ⟨⟨_, rfl, rfl, rfl⟩, rfl⟩, rfl,
        elsewhere_of_same⟩
  · intro o hp hopening objection objected
    have hstep : exec (.endOfFrame dt levels) s = done
        (((s.advance dt).sentOffHeard o levels).claimObjected objection).dropUncoordinated.preCheck :=
      congrArg done (endOfFrame_ownObjected (s := s.advance dt) hx hk hu hs ho hd hq hr hp hopening)
    refine ⟨fun hl hcoord => ?_, fun hl hcoord => ?_, fun hl => ?_⟩
    · rw [claimObjected_backsOff _ (by exact hclaims) hc hl, dropUncoordinated_coordinated (by exact hcoord),
        preCheck_busy (by simp [Claim.backedOff])] at hstep
      exact completes_of_done hstep ⟨⟨rfl, rfl, rfl⟩, rfl, elsewhere_of_same⟩
    · have hdropped : (((s.advance dt).sentOffHeard o levels).claimObjected objection).dropUncoordinated =
          State.finishClaim ((s.advance dt).sentOffUnclaimed o levels)
            (c.backedOff (s.now + dt + 500) objection) .divertUncoordinated := by
        rw [claimObjected_backsOff _ (by exact hclaims) hc hl,
          dropUncoordinated_one (c := c.backedOff (s.now + dt + 500) objection) (by exact hcoord) rfl
            (by simp [Claim.backedOff]) hl, txqWithout_grounded (by simp [Claim.backedOff]),
          if_neg (by simp [Claim.backedOff])]
        rfl
      have hempty : ((s.advance dt).sentOffUnclaimed o levels).line.txq.length < 8 := Nat.zero_lt_succ 7
      have hdiverted := divertedClaim_settle (s := s) (dt := dt) (c := c.backedOff (s.now + dt + 500) objection)
        (o := .divertUncoordinated) (w := (s.advance dt).sentOffUnclaimed o levels) rfl hempty rfl rfl rfl rfl rfl
      rw [hdropped, finishClaim_room _ _ hempty, preCheck_none rfl] at hstep
      rw [finishClaim_room _ _ hempty] at hdiverted
      exact completes_of_done hstep ⟨⟨rfl, rfl, rfl⟩, hdiverted, elsewhere_of_same⟩
    · rw [claimObjected_late _ (by exact hclaims) hc hl, dropUncoordinated_preCheck_none rfl] at hstep
      exact completes_of_done hstep ⟨⟨rfl, rfl, rfl⟩, rfl, elsewhere_of_same⟩

end Sys2Proof.Machine
end

section
/-! PROOFS. COMMAND, STATUS and own-number frames at their end (08 R126, R134, R140; 10 R162; 11 R165). -/

namespace Sys2Proof.Machine

/-- A COMMAND for this station is answered to; its source is the host's, so no conflict follows. -/
theorem handOn_command {s u : State} {bytes : List Byte} {seen : Bool} {prepared : Option Prepared}
    {response : Option ResponseDrive} (hk : frameKind bytes = some .command) (hs : frameSource bytes = 15)
    (ht : frameTarget bytes = s.control.straps.number) (h : s.commandAtEof prepared response = u) :
    s.handOn bytes seen prepared response = u := by
  subst h
  unfold State.handOn
  rw [hk]
  dsimp only
  rw [if_pos ht]
  exact if_neg fun hown => hown.2 hs

/-- The command of a completed reply, or of one that needs no line, becomes due (11 R165). -/
theorem commandAtEof_some {s : State} {m : Maintenance} {silent : Bool} {response : Option ResponseDrive}
    (h : (silent = false ∧ ∃ b, response = some ⟨b, true, false⟩)
      ∨ (silent = false ∧ ∃ b, response = some ⟨b, true, true⟩) ∨ (silent = true ∧ response = none)) :
    s.commandAtEof (some ⟨some m, silent⟩) response = { s with handler := { s.handler with
      due := if response.any ResponseDrive.stopped then s.handler.due else some m } } := by
  obtain ⟨rfl, b, rfl⟩ | ⟨rfl, b, rfl⟩ | ⟨rfl, rfl⟩ := h <;> rfl

/-- A STATUS page 0 of another station is compared. -/
theorem handOn_status {s u : State} {bytes : List Byte} {seen : Bool} {prepared : Option Prepared}
    {response : Option ResponseDrive} (hk : frameKind bytes = some .status)
    (hpage : (byteAt (framePayload bytes) 0).toNat / 32 = 0)
    (h : s.compareSite (frameSource bytes) (framePayload bytes) = u)
    (hs : frameSource bytes ≠ u.control.straps.number) : s.handOn bytes seen prepared response = u := by
  subst h
  unfold State.handOn
  rw [hk]
  dsimp only
  rw [if_pos hpage]
  exact if_neg fun hown => hs hown.1

/-- A LOADED station's checksum, of a source not seen before: another one is listed, raised and reported. -/
theorem compareSite_loaded {s : State} {cal : Calibration} {source : StationNo} {payload : List Byte}
    (hcal : s.control.calibration = some cal) (hsense : s.control.sense = none)
    (hsource : source ∉ s.control.mismatch) (hloaded : (byteAt payload 3).getLsbD 7 = true)
    (hroom : s.line.txq.length < 8) :
    s.compareSite source payload = if BitVec.ofNat 16 (fieldAt payload 6 2) = cal.checksum then s
      else { s with
        control := { s.control with
          mismatch := s.control.mismatch ++ [source], sense := some ⟨.siteMismatch, 0, some source, s.now⟩ }
        line := { s.line with txq := insertFrame (s.frameOf .report .ordinary
          (mismatchPayload source cal.checksum (BitVec.ofNat 16 (fieldAt payload 6 2)))) s.line.txq } } := by
  have hnew : s.control.mismatch.contains source = false := by simpa using hsource
  unfold State.compareSite
  rw [hcal]
  dsimp only
  rw [hloaded, hnew]
  by_cases htheirs : BitVec.ofNat 16 (fieldAt payload 6 2) = cal.checksum
  · rw [if_pos htheirs, if_neg (by simp [htheirs])]
  · rw [if_neg htheirs, if_pos (by simp [htheirs]), raise_eq]
    simp only [hsense, Option.getD_none, if_true]
    rw [enqueue_room (by exact hroom)]
    rfl

/-- A frame of this station's own number that hands nothing on is an identity conflict (08 R140). -/
theorem handOn_conflict {s : State} {bytes : List Byte} {seen : Bool} {prepared : Option Prepared}
    {response : Option ResponseDrive} {k : FrameKind} (hk : frameKind bytes = some k)
    (hk' : k = .sense ∨ k = .report ∨ k = .verdict) (hs : frameSource bytes = s.control.straps.number)
    (hn : s.control.straps.number ≠ 15) : s.handOn bytes seen prepared response = s.declareConflict := by
  unfold State.handOn
  rw [hk]
  obtain rfl | rfl | rfl := hk' <;> exact if_pos ⟨hs, by rw [hs]; exact hn⟩

theorem declareConflict_listening {s : State} (h : s.line.state = .listenOnly) : s.declareConflict = s := by
  simp [State.declareConflict, h]

theorem declareConflict_declares {s : State} (h : s.line.state ≠ .listenOnly) (hsense : s.control.sense = none)
    (hc : s.admission.claims = []) :
    s.declareConflict = { s with
      line := { s.line with state := .listenOnly, isolationTimer := none, isolationFrame := none }
      control := { s.control with
        sense := some ⟨.identity, 0, some s.control.straps.number, s.now⟩ } } := by
  unfold State.declareConflict
  cases hstate : s.line.state with
  | listenOnly => exact absurd hstate h
  | normal | isolated =>
    dsimp only
    rw [raise_eq, dropUncoordinated_none (by exact hc)]
    simp only [hsense, Option.getD_none, if_true]

/-- Settles O47: by the kind of the frame handed on. -/
theorem framesAreHandedOnAtTheirEnd : Obligations.FramesAreHandedOnAtTheirEnd := by
  intro s dt ho hg hx hd hsense number source payload ended
  have hend : ∀ levels, (s.line.phase = .window ∨ s.line.phase = .response ∧ s.line.rx.opening = some .long
      ∧ responseBroken (Machine.bitTime s.control.straps.rate) .long levels = false) →
      exec (.endOfFrame dt levels) s = done ((s.advance dt).frameOver.handOn s.line.rx.bytes
        (s.line.phase == .response || s.line.response.isSome) s.handler.prepared s.line.response) := fun levels hp =>
    congrArg done (endOfFrame_other (s := s.advance dt) hx ho hg hd hp)
  refine ⟨fun levels m silent hp hk hs ht hprepared hresponse => ?_,
    fun cal theirs hp hr hk hpage hcal hs hsource hloaded htheirs hroom => ?_,
    fun k hp hr hk hk' hs hn hclaims => ?_⟩
  · have hstep := hend levels hp
    rw [hprepared, handOn_command hk hs (by exact ht) (commandAtEof_some hresponse)] at hstep
    exact completes_of_done hstep ⟨rfl, rfl, elsewhere_of_same⟩
  · have hstep := hend [] (.inl hp)
    subst htheirs
    have hcompared := compareSite_loaded (s := (s.advance dt).frameOver) (source := source) (payload := payload)
      hcal hsense hsource hloaded hroom
    by_cases hsame : BitVec.ofNat 16 (fieldAt payload 6 2) = cal.checksum
    · rw [handOn_status hk hpage (hcompared.trans (if_pos hsame)) (by exact hs)] at hstep
      exact completes_of_done hstep ⟨fun h => absurd hsame h, fun _ => ⟨control_same_settle, rfl⟩, rfl,
        elsewhere_of_same⟩
    · rw [handOn_status hk hpage (hcompared.trans (if_neg hsame)) (by exact hs)] at hstep
      exact completes_of_done hstep ⟨fun _ => ⟨rfl, ⟨_, rfl, rfl, rfl⟩⟩, fun h => absurd h hsame, rfl,
        elsewhere_of_same⟩
  · have hstep := hend [] (.inl hp)
    rw [handOn_conflict hk hk' (by exact hs) (by exact hn)] at hstep
    by_cases hstate : s.line.state = .listenOnly
    · rw [declareConflict_listening (by exact hstate)] at hstep
      exact completes_of_done hstep ⟨fun h => absurd hstate h, fun _ => ⟨rfl, control_same_settle⟩, rfl,
        elsewhere_of_same⟩
    · rw [declareConflict_declares (by exact hstate) (by exact hsense) (by exact hclaims)] at hstep
      exact completes_of_done hstep ⟨fun _ => ⟨rfl, rfl⟩, fun h => absurd h hstate, rfl, elsewhere_of_same⟩

end Sys2Proof.Machine
end

section
/-! PROOFS. HOLD and its release (08 R137, R138; 05 R84, R89; 09 R145). -/

namespace Sys2Proof.Machine

/-! ## What the end of claims leaves as it stands -/

/-- Closure, the receiver's phase and the view. -/
def State.standing (s : State) : Closure × RxPhase × SpanTable := (s.sign.closure, s.line.phase, s.span)

theorem putFrame_standing (s : State) (kind : FrameKind) (use : FrameUse) (payload : List Byte) :
    (s.putFrame kind use payload).1.standing = s.standing := by
  unfold State.putFrame
  dsimp only
  repeat' split
  all_goals rfl

theorem replayAfter_standing (s : State) (f : TxFrame) : (s.replayAfter f).standing = s.standing := by
  unfold State.replayAfter State.replayNext
  split
  · split
    · rfl
    · rfl
    · exact putFrame_standing _ _ _ _
  · rfl

theorem preCheck_standing (s : State) : s.preCheck.standing = s.standing := by
  unfold State.preCheck
  split
  · rfl
  · split
    · dsimp only
      split
      · exact putFrame_standing s _ _ _
      · exact (replayAfter_standing _ _).trans (putFrame_standing s _ _ _)
    · rfl

theorem enqueue_standing (s : State) (kind : FrameKind) (use : FrameUse) (payload : List Byte) :
    (s.enqueue kind use payload).standing = s.standing := by
  have hput := putFrame_standing s kind use payload
  unfold State.enqueue
  dsimp only
  split
  · exact hput
  · split
    · exact (preCheck_standing _).trans hput
    · exact (replayAfter_standing _ _).trans ((preCheck_standing _).trans hput)

theorem finishClaim_standing (s : State) (c : Claim) (o : VehicleOutcome) :
    (s.finishClaim c o).standing = s.standing := by
  unfold State.finishClaim State.announce
  dsimp only
  split
  · exact enqueue_standing _ _ _ _
  · exact enqueue_standing _ _ _ _

theorem endClaim_standing (s : State) (c : Claim) (o : VehicleOutcome) :
    (s.endClaim c o).standing = s.standing := by
  have hleft : (match c.state with
      | .offeredQueued | .offeredInFlight => (s.dropClaim c.vehicle.tag).removeClaimFrame
      | .waiting | .backoff _ => s.dropClaim c.vehicle.tag).standing = s.standing := by
    split <;> rfl
  unfold State.endClaim
  cases c.lateMark with
  | none => exact (finishClaim_standing _ _ _).trans hleft
  | some mark => exact hleft

theorem endClaims_standing (o : VehicleOutcome) (cs : List Claim) :
    ∀ s : State, (s.endClaims cs o).standing = s.standing := by
  induction cs with
  | nil => exact fun _ => rfl
  | cons c cs ih => exact fun s => (ih _).trans (endClaim_standing s c o)

theorem claimHeld_standing (s : State) : s.claimHeld.standing = s.standing := by
  unfold State.claimHeld
  split
  · rfl
  · exact endClaim_standing _ _ _

theorem holdEndsFrame_standing (s : State) : s.holdEndsFrame.standing = s.standing := by
  have hclaim : ∀ f : TxFrame, (if f.kind = .claim then s.groundFrame.claimHeld.removeClaimFrame
      else s.groundFrame).standing = s.standing := by
    intro f
    split
    · exact claimHeld_standing s.groundFrame
    · rfl
  unfold State.holdEndsFrame
  split
  · rfl
  · dsimp only
    split
    · rfl
    all_goals exact hclaim _

/-- The state after the frame in flight has ended by HOLD, before closure enters HELD (08 R137). -/
def State.holding (s : State) : State :=
  { s.holdEndsFrame with
    counters := { s.holdEndsFrame.counters with holdEvents := bump s.holdEndsFrame.counters.holdEvents }
    line := { s.holdEndsFrame.line with phase := .hold, rx := .empty, response := none }
    handler := { s.holdEndsFrame.handler with prepared := none } }

theorem holdTakenStep_eq {s : State} (hp : s.line.phase ≠ .hold) : holdTakenStep s = s.holding.enterHeld := by
  have hnew : (s.line.phase == .hold) = false := by simp [hp]
  unfold holdTakenStep
  rw [hnew]
  rfl

/-- Entry to HELD sets closure, and leaves the receiver and the view. -/
theorem enterHeld_standing (s : State) : s.enterHeld.standing = (.held, s.line.phase, s.span) := by
  unfold State.enterHeld
  split
  · next h => rw [State.standing, eq_of_beq h]
  · exact endClaims_standing _ _ _

/-! ## Claims that end together (05 R77, R84, R89) -/

/-- A CLAIM frame of the claim is queued or in flight. -/
def Claim.offered (c : Claim) : Bool := c.state == .offeredQueued || c.state == .offeredInFlight

/-- The frame stays queued when these claims end. -/
def keepsFrame (cs : List Claim) (g : TxFrame) : Bool := g.kind != .claim || cs.all fun c => !c.offered

theorem txqWithout_keeps (s : State) (c : Claim) : s.txqWithout c = s.line.txq.filter (keepsFrame [c]) := by
  unfold State.txqWithout
  by_cases h : c.state = .offeredQueued ∨ c.state = .offeredInFlight
  · have hoffered : c.offered = true := by simpa [Claim.offered] using h
    rw [if_pos h]
    exact List.filter_congr fun g _ => by simp [keepsFrame, hoffered]
  · have hoffered : c.offered = false := by simpa [Claim.offered] using h
    rw [if_neg h]
    exact (List.filter_eq_self.2 fun g _ => by simp [keepsFrame, hoffered]).symm

theorem keepsFrame_cons (c : Claim) (cs : List Claim) (g : TxFrame) :
    keepsFrame (c :: cs) g = (keepsFrame cs g && keepsFrame [c] g) := by
  unfold keepsFrame
  cases g.kind != .claim <;> simp [Bool.and_comm]

theorem keepsFrame_verdict (cs : List Claim) {g : TxFrame} (h : g.kind = .verdict) : keepsFrame cs g = true := by
  simp [keepsFrame, h]

/-- The queue `q'` is what the end of these claims makes of `q`: their frames leave, and a VERDICT of each joins
in their order. -/
def VerdictsJoin (number : StationNo) (o : VehicleOutcome) (cs : List Claim) (q q' : List TxFrame) : Prop :=
  ∃ verdicts : List TxFrame,
    verdicts.map TxFrame.bytes = cs.map (fun c => frameBytes number .verdict (verdictPayload (c.finished o)))
    ∧ (∀ v ∈ verdicts, v.kind = .verdict) ∧ q' = q.filter (keepsFrame cs) ++ verdicts

theorem verdictsJoin_nil (number : StationNo) (o : VehicleOutcome) (q : List TxFrame) :
    VerdictsJoin number o [] q q :=
  ⟨[], rfl, by simp, by rw [List.append_nil, List.filter_eq_self.2 fun g _ => by simp [keepsFrame]]⟩

/-- One claim ends, and then the others. -/
theorem verdictsJoin_cons {number : StationNo} {o : VehicleOutcome} {c : Claim} {cs : List Claim} {v : TxFrame}
    {q q' : List TxFrame} (hk : v.kind = .verdict)
    (hb : v.bytes = frameBytes number .verdict (verdictPayload (c.finished o)))
    (h : VerdictsJoin number o cs (q.filter (keepsFrame [c]) ++ [v]) q') : VerdictsJoin number o (c :: cs) q q' := by
  obtain ⟨verdicts, hbytes, hkinds, rfl⟩ := h
  refine ⟨v :: verdicts, ?_, ?_, ?_⟩
  · rw [List.map_cons, List.map_cons, hbytes, hb]
  · exact fun w hw => (List.mem_cons.1 hw).elim (fun e => e ▸ hk) (hkinds w)
  · rw [List.filter_append, List.filter_filter, List.filter_singleton, keepsFrame_verdict cs hk,
      funext (keepsFrame_cons c cs)]
    simp

/-- A ring copy of one of the claims takes its outcome (05 R77). -/
def divertedIn (o : VehicleOutcome) (cs : List Claim) (h : VehicleRecord) : VehicleRecord :=
  match cs.find? fun c => c.vehicle.tag = h.tag with
  | some c => { h with outcome := some o, lastObjection := c.lastObjection }
  | none => h

/-- One claim with a tag of its own takes its outcome, and then the others. -/
theorem divertedIn_cons {o : VehicleOutcome} {c : Claim} {cs : List Claim}
    (htag : c.vehicle.tag ∉ cs.map fun d => d.vehicle.tag) (h : VehicleRecord) :
    divertedIn o cs (if h.tag == c.vehicle.tag then { h with outcome := some o, lastObjection := c.lastObjection }
      else h) = divertedIn o (c :: cs) h := by
  by_cases he : h.tag = c.vehicle.tag
  · have hrest : (cs.find? fun d => d.vehicle.tag = h.tag) = none :=
      List.find?_eq_none.2 fun d hd heq => htag (List.mem_map.2 ⟨d, hd, (of_decide_eq_true heq).trans he⟩)
    rw [if_pos (beq_iff_eq.2 he)]
    unfold divertedIn
    dsimp only
    rw [hrest, List.find?_cons_of_pos (by simp [he])]
  · rw [if_neg (by simpa using he)]
    unfold divertedIn
    rw [List.find?_cons_of_neg (by simpa using Ne.symm he)]

/-- The end of the sign hold that a diversion leaves (09 R149). -/
def laterHold (hold : Time) (h : Option Time) : Option Time := some ((h.map fun x => later x hold).getD hold)

theorem laterHold_twice (hold : Time) (h : Option Time) : laterHold hold (laterHold hold h) = laterHold hold h := by
  have hself : later hold hold = hold := ite_self hold
  cases h with
  | none => simp [laterHold, hself]
  | some x =>
    have hchoice : later x hold = x ∨ later x hold = hold := ite_eq_or_eq _ _ _
    obtain hx | hx := hchoice <;> simp [laterHold, hx, hself]

/-- The state after claims without a late mark have ended by `o`, with the queue that they leave. -/
def State.claimsDiverted (s : State) (o : VehicleOutcome) (cs : List Claim) (q : List TxFrame) : State :=
  { s with
    admission := { s.admission with claims := [] }
    assembler := { s.assembler with history := s.assembler.history.map (divertedIn o cs) }
    line := { s.line with txq := q }
    sign := { s.sign with
      holdUntil := if cs = [] then s.sign.holdUntil else laterHold (s.after (s.signHold * 1000)) s.sign.holdUntil } }

/-- The state after the first of claims with tags of their own has ended. -/
def State.firstDiverted (s : State) (o : VehicleOutcome) (c : Claim) (cs : List Claim) (v : TxFrame) : State :=
  { s with
    admission := { s.admission with claims := cs }
    assembler := { s.assembler with history := s.assembler.history.map fun h =>
      if h.tag == c.vehicle.tag then { h with outcome := some o, lastObjection := c.lastObjection } else h }
    line := { s.line with txq := s.line.txq.filter (keepsFrame [c]) ++ [v] }
    sign := { s.sign with holdUntil := laterHold (s.after (s.signHold * 1000)) s.sign.holdUntil } }

theorem endClaim_first {s : State} {o : VehicleOutcome} {c : Claim} {cs : List Claim} (ho : o.isDivert = true)
    (hc : s.admission.claims = c :: cs) (hl : c.lateMark = none)
    (htag : c.vehicle.tag ∉ cs.map fun d => d.vehicle.tag) (hroom : s.line.txq.length < 8) :
    ∃ v : TxFrame, v.kind = .verdict
      ∧ v.bytes = frameBytes s.control.straps.number .verdict (verdictPayload (c.finished o))
      ∧ s.endClaim c o = s.firstDiverted o c cs v := by
  have hrest : s.admission.claims.filter (fun d => d.vehicle.tag != c.vehicle.tag) = cs := by
    rw [hc, List.filter_cons_of_neg (by simp)]
    exact List.filter_eq_self.2 fun d hd => bne_iff_ne.2 fun he => htag (List.mem_map.2 ⟨d, hd, he⟩)
  have hlen : (s.line.txq.filter (keepsFrame [c])).length < 8 := (List.length_filter_le _ _).trans_lt hroom
  rw [endClaim_eq s o hl, hrest, txqWithout_keeps, finishClaim_room _ _ (by exact hlen), ho, if_pos rfl,
    divertNotice_eq]
  exact ⟨_, rfl, rfl, rfl⟩

/-- The first of the claims has ended, and then the others. -/
theorem firstDiverted_claimsDiverted {s : State} {o : VehicleOutcome} {c : Claim} {cs : List Claim} {v : TxFrame}
    (q : List TxFrame) (htag : c.vehicle.tag ∉ cs.map fun d => d.vehicle.tag) :
    (s.firstDiverted o c cs v).claimsDiverted o cs q = s.claimsDiverted o (c :: cs) q := by
  have hring : (s.assembler.history.map fun h => if h.tag == c.vehicle.tag then
        { h with outcome := some o, lastObjection := c.lastObjection } else h).map (divertedIn o cs)
      = s.assembler.history.map (divertedIn o (c :: cs)) := by
    rw [List.map_map]
    exact List.map_congr_left fun h _ => divertedIn_cons htag h
  have hhold : (if cs = [] then laterHold (s.after (s.signHold * 1000)) s.sign.holdUntil
        else laterHold (s.after (s.signHold * 1000)) (laterHold (s.after (s.signHold * 1000)) s.sign.holdUntil))
      = laterHold (s.after (s.signHold * 1000)) s.sign.holdUntil := by
    rw [laterHold_twice, ite_self]
  unfold State.claimsDiverted
  rw [← hring, if_neg (List.cons_ne_nil c cs), ← hhold]
  rfl

/-- Claims without a late mark, with tags of their own, end together with room for their VERDICTs. -/
theorem endClaims_diverted {o : VehicleOutcome} (ho : o.isDivert = true) (cs : List Claim) : ∀ s : State,
    s.admission.claims = cs → (∀ c ∈ cs, c.lateMark = none) → (cs.map fun c => c.vehicle.tag).Nodup →
    s.line.txq.length + cs.length ≤ 8 →
    ∃ q, VerdictsJoin s.control.straps.number o cs s.line.txq q ∧ s.endClaims cs o = s.claimsDiverted o cs q := by
  induction cs with
  | nil =>
    intro s hc _ _ _
    refine ⟨s.line.txq, verdictsJoin_nil _ _ _, ?_⟩
    have hclaims : ({ s.admission with claims := [] } : Admission) = s.admission := by rw [← hc]
    have hring : s.assembler.history.map (divertedIn o []) = s.assembler.history := List.map_id _
    rw [endClaims_nil, State.claimsDiverted, hclaims, hring, if_pos rfl]
  | cons c cs ih =>
    intro s hc hl htags hroom
    obtain ⟨htag, htags⟩ := List.nodup_cons.1 htags
    rw [List.length_cons] at hroom
    obtain ⟨v, hkind, hbytes, hfirst⟩ := endClaim_first ho hc (hl c (List.mem_cons_self ..)) htag (by omega)
    have hlen : (s.firstDiverted o c cs v).line.txq.length + cs.length ≤ 8 := by
      have := List.length_filter_le (keepsFrame [c]) s.line.txq
      simp only [State.firstDiverted, List.length_append, List.length_singleton]
      omega
    obtain ⟨q, hjoin, hrest⟩ := ih (s.firstDiverted o c cs v) rfl (fun d hd => hl d (List.mem_cons_of_mem _ hd))
      htags hlen
    refine ⟨q, verdictsJoin_cons hkind hbytes hjoin, ?_⟩
    show (s.endClaim c o).endClaims cs o = _
    rw [hfirst, hrest, firstDiverted_claimsDiverted q htag]

/-! ## HOLD is taken -/

/-- The state after a frame in flight, of no claim, has ended by HOLD (08 R137). -/
def State.grounded (s : State) : State :=
  { s with
    counters := { s.counters with holdEvents := bump s.counters.holdEvents }
    line := { s.line with phase := .hold, rx := .empty, response := none, inFlight := none }
    handler := { s.handler with prepared := none } }

theorem holdEndsFrame_queued {s : State} {x : InFlight} (hx : s.line.inFlight = some x)
    (hu : x.frame.use ≠ .isolation) :
    s.holdEndsFrame = if x.frame.kind = .claim then s.groundFrame.claimHeld.removeClaimFrame else s.groundFrame := by
  unfold State.holdEndsFrame
  rw [hx]
  dsimp only
  cases huse : x.frame.use with
  | isolation => exact absurd huse hu
  | ordinary | replay | failedStatus => rfl

theorem holding_plain {s : State}
    (h : ∀ x, s.line.inFlight = some x → x.frame.kind ≠ .claim ∧ x.frame.use ≠ .isolation) :
    s.holding = s.grounded := by
  cases hx : s.line.inFlight with
  | none =>
    have hsame : s.holdEndsFrame = s := by
      unfold State.holdEndsFrame
      rw [hx]
    rw [State.holding, hsame, State.grounded, ← hx]
  | some x =>
    obtain ⟨hk, hu⟩ := h x hx
    rw [State.holding, holdEndsFrame_queued hx hu, if_neg hk]
    rfl

/-- The state after the CLAIM in flight, of the head claim, has ended by HOLD (05 R84). -/
theorem holding_claim {s : State} {x : InFlight} {c : Claim} {cs : List Claim} (hx : s.line.inFlight = some x)
    (hk : x.frame.kind = .claim) (hu : x.frame.use ≠ .isolation) (hc : s.admission.claims = c :: cs)
    (hs : c.state = .offeredInFlight) (hl : c.lateMark = none)
    (htag : c.vehicle.tag ∉ cs.map fun d => d.vehicle.tag) (hroom : s.line.txq.length < 8) :
    ∃ v : TxFrame, v.kind = .verdict
      ∧ v.bytes = frameBytes s.control.straps.number .verdict (verdictPayload (c.finished .divertClosed))
      ∧ s.holding = s.grounded.firstDiverted .divertClosed c cs v := by
  obtain ⟨v, hkind, hbytes, hfirst⟩ := endClaim_first (s := s.groundFrame) (o := .divertClosed) rfl hc hl htag hroom
  refine ⟨v, hkind, hbytes, ?_⟩
  have hoffered : c.offered = true := by simp [Claim.offered, hs]
  have hqueue : (s.line.txq.filter (keepsFrame [c]) ++ [v]).filter (fun g => g.kind != .claim)
      = s.line.txq.filter (keepsFrame [c]) ++ [v] := by
    refine List.filter_eq_self.2 fun g hg => ?_
    obtain hg | hg := List.mem_append.1 hg
    · simpa [keepsFrame, hoffered] using (List.mem_filter.1 hg).2
    · rw [List.mem_singleton.1 hg, hkind]
      rfl
  have hended : s.holdEndsFrame = s.groundFrame.firstDiverted .divertClosed c cs v := by
    have hheld : s.groundFrame.claimHeld = s.groundFrame.firstDiverted .divertClosed c cs v := by
      rw [State.claimHeld, flyingClaim_head (by exact hc) hs]
      exact hfirst
    have hremoved : s.groundFrame.claimHeld.removeClaimFrame = s.groundFrame.firstDiverted .divertClosed c cs v := by
      rw [hheld, State.removeClaimFrame]
      dsimp only [State.firstDiverted, State.groundFrame]
      rw [hqueue]
    rw [holdEndsFrame_queued hx hu, if_pos hk]
    exact hremoved
  rw [State.holding, hended]
  rfl

/-- The state after entry to HELD, before its claims end (09 R145). -/
def State.closing (s : State) : State :=
  { s.grounded with sign := { s.sign with closure := .held, reopenTimer := none } }

/-- HOLD taken with claims held: each ends, whether its frame was in flight or not. -/
theorem holdTakenStep_diverts {s : State} (hp : s.line.phase ≠ .hold) (hclosure : s.sign.closure ≠ .held)
    (hl : ∀ c ∈ s.admission.claims, c.lateMark = none)
    (htags : (s.admission.claims.map fun c => c.vehicle.tag).Nodup)
    (hroom : s.line.txq.length + s.admission.claims.length ≤ 8)
    (hflight : ∀ x, s.line.inFlight = some x → x.frame.use ≠ .isolation ∧ (x.frame.kind = .claim →
      ∃ c ∈ s.admission.claims.head?, c.state = .offeredInFlight)) :
    ∃ q, VerdictsJoin s.control.straps.number .divertClosed s.admission.claims s.line.txq q
      ∧ holdTakenStep s = s.closing.claimsDiverted .divertClosed s.admission.claims q := by
  have hopen : (s.sign.closure == .held) = false := by simp [hclosure]
  rw [holdTakenStep_eq hp]
  by_cases hclaim : ∃ x, s.line.inFlight = some x ∧ x.frame.kind = .claim
  · obtain ⟨x, hx, hk⟩ := hclaim
    obtain ⟨hu, hhead⟩ := hflight x hx
    obtain ⟨c, hc, hs⟩ := hhead hk
    obtain ⟨cs, hclaims⟩ : ∃ cs, s.admission.claims = c :: cs := List.head?_eq_some_iff.1 hc
    rw [hclaims] at hl htags hroom ⊢
    rw [List.length_cons] at hroom
    obtain ⟨htag, htags⟩ := List.nodup_cons.1 htags
    obtain ⟨v, hkind, hbytes, hholding⟩ :=
      holding_claim hx hk hu hclaims hs (hl c (List.mem_cons_self ..)) htag (by omega)
    have hlen : (s.closing.firstDiverted .divertClosed c cs v).line.txq.length + cs.length ≤ 8 := by
      have := List.length_filter_le (keepsFrame [c]) s.line.txq
      simp only [State.firstDiverted, State.closing, State.grounded, List.length_append, List.length_singleton]
      omega
    obtain ⟨q, hjoin, hrest⟩ := endClaims_diverted (o := .divertClosed) rfl cs
      (s.closing.firstDiverted .divertClosed c cs v) rfl (fun d hd => hl d (List.mem_cons_of_mem _ hd)) htags hlen
    refine ⟨q, verdictsJoin_cons hkind hbytes hjoin, ?_⟩
    rw [← firstDiverted_claimsDiverted (v := v) q htag, ← hrest, hholding]
    unfold State.enterHeld
    rw [if_neg (by simp [State.firstDiverted, State.grounded, hopen])]
    rfl
  · have hplain : s.holding = s.grounded := holding_plain fun x hx =>
      ⟨fun hk => hclaim ⟨x, hx, hk⟩, (hflight x hx).1⟩
    obtain ⟨q, hjoin, hended⟩ := endClaims_diverted (o := .divertClosed) rfl s.admission.claims s.closing rfl hl htags
      hroom
    refine ⟨q, hjoin, ?_⟩
    rw [← hended, hplain]
    unfold State.enterHeld
    rw [if_neg (by simp [State.grounded, hopen])]
    rfl

/-- A frame that the HOLD demand has stopped stays as it is under the commands that end frames (08 R138). -/
theorem stopped_stands {s : State} {x : InFlight} (dt : Time) (cell : Nat) (bytes : List Byte) (levels : List Nat)
    (hx : s.line.inFlight = some x) (hs : x.stopped = true) (hd : s.line.holdDemand = true) {c : Instr}
    (hc : c ∈ [Instr.noEchoFault dt, .arbitrationLoss dt cell, .bitError dt cell, .endOfData dt bytes,
      .endOfFrame dt levels, .lineIdle dt]) : exec c s = done (s.advance dt) := by
  have hown : s.line.holdsOwn = true := by simp [LineControl.holdsOwn, hd, hx]
  have hdrives := InFlight.stopped_drives hs cell
  simp only [List.mem_cons, List.not_mem_nil, or_false] at hc
  obtain rfl | rfl | rfl | rfl | rfl | rfl := hc
  · show done (noEchoFaultStep (s.advance dt)) = _
    simp [noEchoFaultStep, hx, InFlight.starting, hs]
  · show done (arbitrationLossStep (s.advance dt) cell) = _
    simp [arbitrationLossStep, hx, hdrives]
  · show done (bitErrorStep (s.advance dt) cell) = _
    simp [bitErrorStep, hx, hdrives]
  · show done (endOfDataStep (s.advance dt) bytes) = _
    simp [endOfDataStep, hown]
  · show done (endOfFrameStep (s.advance dt) levels) = _
    simp [endOfFrameStep, hown]
  · show done (lineIdleStep (s.advance dt)) = _
    simp [lineIdleStep, hown]

/-- Settles O48: the stopped frame, HOLD with and without claims, and its release. -/
theorem holdClosesAndReleaseReopens : Obligations.HoldClosesAndReleaseReopens := by
  refine ⟨fun s dt x c cell bytes levels hx hs hd hc => ?_, fun s dt hp hclaims hflight => ?_, fun s dt hp hsound => ?_,
    ?_, fun s dt hp hheld => ?_⟩
  · exact completes_of_done (stopped_stands dt cell bytes levels hx hs hd hc) elsewhere_of_same
  · have hstep : exec (.holdTaken dt) s = done _ :=
      congrArg done ((holdTakenStep_eq (s := s.advance dt) hp).trans (congrArg State.enterHeld (holding_plain hflight)))
    by_cases hclosure : s.sign.closure = .held
    · have hstays : (s.advance dt).grounded.enterHeld = (s.advance dt).grounded := by
        simp [State.enterHeld, State.grounded, hclosure]
      rw [hstays] at hstep
      refine completes_of_done hstep ⟨rfl, rfl, rfl, hclosure, fun h => absurd hclosure h, ?_, elsewhere_of_same⟩
      rw [← hclosure]
      exact Part.same_settle (by rfl)
    · rw [enterHeld_none (by exact hclosure) (by exact hclaims)] at hstep
      exact completes_of_done hstep ⟨rfl, rfl, rfl, rfl, fun _ => rfl, Part.same_settle (by rfl), elsewhere_of_same⟩
  · have hstep : exec (.holdTaken dt) s = done (s.advance dt).holding.enterHeld :=
      congrArg done (holdTakenStep_eq (s := s.advance dt) hp)
    have hstanding := (enterHeld_standing (s.advance dt).holding)
    have hview : (s.advance dt).holding.span = s.span := congrArg (·.2.2) (holdEndsFrame_standing (s.advance dt))
    have hclosure : (s.advance dt).holding.enterHeld.sign.closure = .held := congrArg (·.1) hstanding
    have hclaims := holdTakenStep_noClaims (s := s.advance dt) hsound.noClaims
    rw [holdTakenStep_eq (s := s.advance dt) hp] at hclaims
    refine completes_of_done hstep ⟨hclaims (by rw [hclosure]; decide), hclosure, congrArg (·.2.1) hstanding, ?_⟩
    exact (congrArg (·.2.2) hstanding).trans hview
  · intro s dt hp hclosure hsome hl htags hroom hframes hflight finished hold
    obtain ⟨q, ⟨verdicts, hbytes, hkinds, rfl⟩, hended⟩ :=
      holdTakenStep_diverts (s := s.advance dt) hp hclosure hl htags hroom hflight
    have hqueue : s.line.txq.filter (keepsFrame s.admission.claims) = s.line.txq.filter fun g => g.kind ≠ .claim := by
      refine List.filter_congr fun g hg => ?_
      by_cases hk : g.kind = .claim
      · obtain ⟨c, hc, hoffered⟩ := hframes g hg hk
        have hoffered' : c.offered = true := by simpa [Claim.offered] using hoffered
        have hleaves : (s.admission.claims.all fun c => !c.offered) = false :=
          List.all_eq_false.2 ⟨c, hc, by simp [hoffered']⟩
        simp [keepsFrame, hk, hleaves]
      · simp [keepsFrame, hk]
    have hstep : exec (.holdTaken dt) s = done _ := congrArg done hended
    refine completes_of_done hstep ⟨rfl, ⟨verdicts, hbytes, hkinds, ?_⟩, rfl, rfl, rfl, ?_, elsewhere_of_same⟩
    · rw [← hqueue]
      rfl
    · refine Part.same_settle ?_
      show _ = _
      rw [State.claimsDiverted, if_neg (by exact hsome)]
      rfl
  · have hstep : exec (.lineRecessiveNotice dt) s = done (if s.sign.closeIn = true
        then { s.advance dt with line := { s.line with phase := .seeking } }
        else State.enterReopening { s.advance dt with line := { s.line with phase := .seeking } }) := by
      show done (lineRecessiveNoticeStep (s.advance dt)) = _
      cases hcloseIn : s.sign.closeIn <;> simp [lineRecessiveNoticeStep, hp, hheld, hcloseIn]
    cases hcloseIn : s.sign.closeIn with
    | true =>
      rw [if_pos hcloseIn] at hstep
      exact completes_of_done hstep ⟨rfl, fun h => (nomatch h), fun _ => Part.same_settle (by rfl), elsewhere_of_same⟩
    | false =>
      rw [if_neg (by simp [hcloseIn])] at hstep
      exact completes_of_done hstep ⟨rfl, fun _ => Part.same_settle (by rfl), fun h => (nomatch h), elsewhere_of_same⟩

end Sys2Proof.Machine
end
